-- ==== Sys2Proof/Word.lean ====
section
/-!
DEFINITION. The 16-bit word that crosses both links, the byte, and the index types of the part's tables.

Every word on either link is 16 bits (R148, section 12); a message kind is one byte (R156).  The
capacities of the introduction's table are the bounds of the index types.
-/

namespace Sys2Proof

/-- A 16-bit link word. A sample, a coefficient or a message word. -/
abbrev Word := BitVec 16

/-- One byte: a message kind or one half of a packed word. -/
abbrev Byte := BitVec 8

/-- A position number, 0 to 31 (R2). -/
abbrev Position := Fin 32

/-- An H-slot or a T-slot number, 0 to 31 (R2, R148). -/
abbrev Slot := Fin 32

/-- A frame number, 0 to 31 (R146). -/
abbrev FrameNumber := Fin 32

/-- A clip identifier, 0 to 63 (R107). -/
abbrev ClipId := Fin 64

/-- A programme number, 0 to 3 (R100). -/
abbrev ProgId := Fin 4

/-- A suppression profile number, 0 to 3 (R63). -/
abbrev ProfileId := Fin 4

/-- A tap block index, 0 to 255 (R24). -/
abbrev BlockIndex := Fin 256

end Sys2Proof
end

