-- ==== Sys2Proof/Syntax.lean ====
section
/-!
DEFINITION. The commands of the part: one constructor of `Instr` for each row of spec/opcode_table.json.

Three kinds of row, said in the docstrings below and in notes/assumptions/1.md, 2.md and 3.md:

* a MESSAGE row is a management message that the command unit receives. Its operands are the body
  words of the message (section 12.4), less the mode word where the row's own name fixes it;
* an INPUT row is something the outside world does: a marker, a symbol, a status word, a quiet
  window, the reset pin, and the received samples of one frame;
* an INTERNAL row is something the part itself does at a turn, at a cycle start or in a frame. The
  rows that name one outcome of such a step (the teardown at a turn, the fourth counted turn, the
  limiter coming on in a frame) are that step in the case where the outcome takes place.
-/

namespace Sys2Proof

/-- The four headset keys, in the order of section 12.3. -/
inductive Key where
  | mute
  | hold
  | volUp
  | volDown
deriving DecidableEq, Repr

/-- When the indicator word of a frame is formed (R144: the word may come before or after what else
falls in the frame). -/
inductive IndicatorMoment where
  /-- Before everything else in the frame. -/
  | frameStart
  /-- After the commands that stand before `FRAME` in the queue, before the work of `FRAME`. -/
  | beforeWork
  /-- After the work of `FRAME`. -/
  | afterWork
deriving DecidableEq, Repr, Inhabited

/-- The blocks that raise events (R170): the runs of two of them in one frame may enter the event queue
in either order. -/
inductive EventBlock where
  | canceller
  | positions
  | monitor
  | players
  | earpiece
  | keys
  | trunk
  | headset
  | receiver
  | clips
deriving DecidableEq, Repr, Inhabited

/-- Where the arbiter's choice of a frame falls among the replies and events placed in that frame (R165,
R170). -/
inductive ChoiceMoment where
  /-- Before all of them. -/
  | first
  /-- Before the replies of the frame, and after some of its events: those whose raising does not depend
  on the step of such a reply. One of them opens the events of the frame. -/
  | between
  /-- After all of them. -/
  | last
deriving DecidableEq, Repr, Inhabited

/-- The choices that the manual leaves to either order inside one frame's computation. Every other
either-order pair is settled by the order in which the commands stand in the queue. -/
structure FrameOrder where
  /-- The frame ends after its computation. With `false` the frame stays open, so that commands may
  be taken in it after its computation; the next `FRAME` that closes then ends it. -/
  closes : Bool
  /-- When the indicator word is formed (R144). -/
  indicator : IndicatorMoment
  /-- A message that waits when the command begins is taken after this frame's computation, where the
  frame closes (R162); with `false`, before it. -/
  messageLast : Bool
  /-- Where this frame's computation takes the turn at which a position is torn down, that position's
  player makes its frame before the turn (R127: the completion of an entry may be first). -/
  playersBeforeTurn : Bool
  /-- How the runs of events of this frame's blocks interleave (R170): each entry takes the next event
  of the block it names, and what is left enters in the order in which it was raised. Where the choice
  falls between the frame's events and its replies, the first entry names the block whose event opens. -/
  picks : List EventBlock
  /-- Where the arbiter's choice falls (R165, R170). -/
  choice : ChoiceMoment
deriving DecidableEq, Repr, Inhabited

/-- The samples received in one frame (R148) with the order choices of that frame. -/
structure FrameInputs where
  /-- T-link receive slots 0 to 31. -/
  returns : Vector Word 32
  /-- T-link receive slots 32 to 35, the programmes. -/
  progs : Vector Word 4
  /-- H-link receive slots 0 to 31. -/
  mics : Vector Word 32
  order : FrameOrder
deriving DecidableEq, Repr, Inhabited

/-- The commands. Each message row `c args` stands for the message of the row's kind whose body is
`args`, with the row's own mode word put in its place where the row names one. -/
inductive Instr where
  /-- POS_MAP: position, H-slot, T-slot (R14). -/
  | posMap (args : List Word)
  /-- POS_OPEN: position, n (R15). -/
  | posOpen (args : List Word)
  /-- POS_CLOSE: position (R16). -/
  | posClose (args : List Word)
  /-- POS_HOLD: position, on/off (R17). -/
  | posHold (args : List Word)
  /-- POS_MUTE: position, on/off (R18). -/
  | posMute (args : List Word)
  /-- POS_VOLUME in mode ABSOLUTE: position, value (R19). -/
  | posVolumeAbsolute (args : List Word)
  /-- POS_VOLUME in mode STEP_UP: position, value (not read) (R19). -/
  | posVolumeStepUp (args : List Word)
  /-- POS_VOLUME in mode STEP_DOWN: position, value (not read) (R19). -/
  | posVolumeStepDown (args : List Word)
  /-- POS_SET: position, parameter, value (R20). -/
  | posSet (args : List Word)
  /-- POS_QUERY: position (R22). -/
  | posQuery (args : List Word)
  /-- POS_TAIL: position, n (R28). -/
  | posTail (args : List Word)
  /-- EC_CONTROL with action FREEZE: position (R55). -/
  | ecControlFreeze (args : List Word)
  /-- EC_CONTROL with action THAW: position (R55). -/
  | ecControlThaw (args : List Word)
  /-- EC_CONTROL with action RESET: position (R55, R56). -/
  | ecControlReset (args : List Word)
  /-- EC_REPORT: position (R60). -/
  | ecReport (args : List Word)
  /-- PROFILE_WRITE: the sixteen words of R72. -/
  | profileWrite (args : List Word)
  /-- PROFILE_READ: profile, selector (R75). -/
  | profileRead (args : List Word)
  /-- ROUTE_PUT: source kind, source position, destination kind, destination position, gain (R83). -/
  | routePut (args : List Word)
  /-- ROUTE_DROP: source kind, source position, destination kind, destination position (R85). -/
  | routeDrop (args : List Word)
  /-- ROUTE_REVERT: no words (R86). -/
  | routeRevert (args : List Word)
  /-- ROUTE_COMMIT: no words (R87). -/
  | routeCommit (args : List Word)
  /-- ROUTE_COMMIT_APPLY: the mix engine's work at a cycle start (R87). Internal. -/
  | routeCommitApply
  /-- ROUTE_LIST: k (R89). -/
  | routeList (args : List Word)
  /-- PROG_SET: programme, threshold, S (R103). -/
  | progSet (args : List Word)
  /-- FALLBACK_SET: clip or none (R104). -/
  | fallbackSet (args : List Word)
  /-- PROG_QUERY: no words (R105). -/
  | progQuery (args : List Word)
  /-- CLIP_BEGIN: clip, length in two words (R109). -/
  | clipBegin (args : List Word)
  /-- CLIP_DATA: clip, then 1 to 15 words (R110). -/
  | clipData (args : List Word)
  /-- CLIP_CANCEL: clip (R111). -/
  | clipCancel (args : List Word)
  /-- CLIP_DELETE: clip (R114). -/
  | clipDelete (args : List Word)
  /-- CLIP_QUERY: clip (R115). -/
  | clipQuery (args : List Word)
  /-- PROMPT_PLAY with the urgent flag off: position, clip, repeats, play gain, duck level, notify (R119). -/
  | promptPlay (args : List Word)
  /-- PROMPT_PLAY with the urgent flag on: the same six words (R120). -/
  | promptPlayUrgent (args : List Word)
  /-- PROMPT_STOP in mode NOW: position (R124). -/
  | promptStopNow (args : List Word)
  /-- PROMPT_STOP in mode AFTER_PASS: position (R124). -/
  | promptStopAfterPass (args : List Word)
  /-- PROMPT_STOP in mode FLUSH: position (R124). -/
  | promptStopFlush (args : List Word)
  /-- PROMPT_QUERY: position (R126). -/
  | promptQuery (args : List Word)
  /-- SHOCK_SET: position, threshold, K, limit gain, hold turns, release step, mode, ceiling (R134). -/
  | shockSet (args : List Word)
  /-- SHOCK_CLEAR: position (R135). -/
  | shockClear (args : List Word)
  /-- SHOCK_QUERY: position (R136). -/
  | shockQuery (args : List Word)
  /-- KEYMAP_SET: key, report edges, action, debounce code (R143). -/
  | keymapSet (args : List Word)
  /-- LINK_ARM: no words (R154). -/
  | linkArm (args : List Word)
  /-- RESUME: no words (R161). -/
  | resume (args : List Word)
  /-- DEV_QUERY: no words (R166). -/
  | devQuery (args : List Word)
  /-- DEV_RESET: no words (R167). -/
  | devReset (args : List Word)
  /-- DEV_RESET_PERFORM: the reset itself, in the frame after the reply is gone (R167). Internal. -/
  | devResetPerform
  /-- UNKNOWN_KIND: a message whose kind is not a command of the part (R162). -/
  | unknownKind (kind : Byte) (args : List Word)
  /-- PIN_RESET: RESET_N returns high (R155). -/
  | pinReset
  /-- FRAME: the computation of one frame on its received samples (R3). -/
  | frame (inputs : FrameInputs)
  /-- HANGOVER_EXPIRE: the frame in which the hangover counter of p reaches 0 (R41). -/
  | hangoverExpire (p : Position) (inputs : FrameInputs)
  /-- PROMPT_PASS_COMPLETE: the frame in which a pass of p's head entry completes (R122). -/
  | promptPassComplete (p : Position) (inputs : FrameInputs)
  /-- SHOCK_ON: the frame in which the shock stage of p enters LIMITING (R130). -/
  | shockOn (p : Position) (inputs : FrameInputs)
  /-- SHOCK_OFF: the frame in which the release ramp of p ends (R132). -/
  | shockOff (p : Position) (inputs : FrameInputs)
  /-- MESSAGE_SENT: the frame in which the TAIL of a reply or event is sent (R165). -/
  | messageSent (inputs : FrameInputs)
  /-- HOLD_LEAVE_COMPLETE: the frame in which h of p reaches 0 with hold target 0 (R4). -/
  | holdLeaveComplete (p : Position) (inputs : FrameInputs)
  /-- POSITION_TURN: the turn of position p (R5). Internal. -/
  | positionTurn (p : Position)
  /-- OPENING_EXIT: the turn at which p leaves OPENING (R6). Internal. -/
  | openingExit (p : Position)
  /-- CLOSING_ENTRY: the turn at which p enters CLOSING (R7). Internal. -/
  | closingEntry (p : Position)
  /-- TEARDOWN: the turn at which p becomes CLOSED (R8). Internal. -/
  | teardown (p : Position)
  /-- TAIL_CHANGE_APPLY: the turn at which p's pending tail change is applied (R31). Internal. -/
  | tailChangeApply (p : Position)
  /-- EC_CONVERGED: the turn at which p's canceller becomes CONVERGED (R51). Internal. -/
  | ecConverged (p : Position)
  /-- EC_DIVERGED: the turn at which p's coefficients are reset for divergence (R52). Internal. -/
  | ecDiverged (p : Position)
  /-- SHOCK_HOLD_EXPIRE: the turn at which p's hold counter reaches 0 (R131). Internal. -/
  | shockHoldExpire (p : Position)
  /-- CYCLE_START: the programme monitor's evaluation at a frame numbered 0 (R102). Internal. -/
  | cycleStart
  /-- PROG_SILENT: the cycle start at which programme k becomes SILENT (R102). Internal. -/
  | progSilent (k : ProgId)
  /-- PROFILE_PENDING_APPLY: the suppressor's work at a cycle start (R73). Internal. -/
  | profilePendingApply
  /-- TLINK_MARKER: the word at the marker position of the incoming T-link frame (R150). -/
  | tlinkMarker (word : Word)
  /-- TLINK_LOST_EXPIRE: the frame after the one in which the T-link was LOST (R150). Internal. -/
  | tlinkLostExpire
  /-- MGMT_SYMBOL: the words of T-link receive slots 36 and 37 of a frame (R156, R157). -/
  | mgmtSymbol (tag data : Word)
  /-- GAP_TIMEOUT: the GAP symbol that brings the gap count to 16 (R157). -/
  | gapTimeout
  /-- MGMT_BREAK: the BRK symbol that brings the break run count to 4 (R158). -/
  | mgmtBreak
  /-- STATUS_WORD_ARRIVAL: the word of H-link receive slot 32 (R137, R139). -/
  | statusWordArrival (word : Word)
  /-- KEY_EDGE: a status word arrival that produces an edge of the key (R141). -/
  | keyEdge (key : Key) (word : Word)
  /-- PRESENCE_EDGE: a status word arrival that produces a presence edge (R142). -/
  | presenceEdge (word : Word)
  /-- HLINK_QUIET_WINDOW: the quiet window of the frame, with or without foreign drive (R153). -/
  | hlinkQuietWindow (foreignDrive : Bool)
  /-- SYNC_PATTERN_FOUND: the hunting T-link receiver finds a marker with this number (R150). -/
  | syncPatternFound (number : FrameNumber)
  /-- RESET_N_ASSERT: RESET_N goes low (R155). -/
  | resetNAssert
deriving DecidableEq, Repr

end Sys2Proof
end

