-- ==== Sys2Proof/Decode.lean ====
section
/-!
DEFINITION. The command that a word of the opcode table spells.

No row of spec/opcode_table.json gives bits: every row's field list is empty, and the part has no
instruction words (its commands are the messages, inputs and internal steps of `Instr`). So no word
spells a command.
-/

namespace Sys2Proof

/-- The command that `w`, read on `nbits` bits of the table, spells: none, for the table gives no row
any bits. (DESIGN CHOICE, safe: notes/assumptions/8.md). -/
def decodeTableWord (_nbits _w : Nat) : Option Instr := none

end Sys2Proof
end

