-- ==== Sys2Proof/Config.lean ====
section
/-!
DEFINITION. The constants of the capacity table (introduction) and the values the manual leaves open:
the revision byte of the device, and the samples of a frame that the fourth good marker cuts short.
-/

namespace Sys2Proof.Config

/-- The revision byte of a DEV_QUERY reply (R166, section 12.5). The manual gives the identifier 0x32
and no revision, so the value is FREE: nothing constrains it (DESIGN CHOICE, safe: notes/assumptions/4.md). -/
opaque revision : Byte

/-- What the part receives in a frame that the fourth good marker cuts short (R147), and the order of the
work in it, as a function of how many frames have been cut short before. No command of the table gives
them, so they are FREE (DESIGN CHOICE, unsafe: notes/assumptions/13.md). -/
opaque cutShort : Nat → FrameInputs

/-- The part identifier of DEV_QUERY (section 12.5). -/
def partId : Byte := 0x32

/-- Words of clip memory (R107). -/
def clipWords : Nat := 524288

/-- Taps in one tap block (R24). -/
def blockTaps : Nat := 64

/-- The tail limit in blocks (R26). -/
def tailLimit : Nat := 16

/-- Samples of a reference history (R35, R37). -/
def historyLength : Nat := 1024

/-- Routes in one table (R81). -/
def routeLimit : Nat := 64

/-- Routes into one destination (R81). -/
def routesPerEnd : Nat := 4

/-- Entries of a prompt queue (R118). -/
def promptLimit : Nat := 4

/-- Entries of a pending key action list (R10). -/
def keyActionLimit : Nat := 4

/-- Messages of the input queue (R160). -/
def inputLimit : Nat := 4

/-- Replies of the reply buffer (R164). -/
def replyLimit : Nat := 2

/-- Events of the event queue (R164). -/
def eventLimit : Nat := 64

/-- The value at which the 16-bit counts of the management path saturate (R159, R164). -/
def countLimit : Nat := 65535

end Sys2Proof.Config
end

