-- ==== Sys2Proof/Machine/State.lean ====
section
/-!
DEFINITION. The state of the part, the reasons a step could stop, and the state after reset.

One structure per block of the introduction's block overview, each holding what the block owns. The
fields that are the MODEL's own and not the manual's (what stood at the start of the frame, what has
been done in the frame, the queue of waiting commands) are named so in their docstrings and in
INVENTORY.md.
-/

namespace Sys2Proof.Machine

/-! ## Position record (R2) -/

/-- The stored state of a position. The four talk-and-hold states are not stored apart (R4). -/
inductive StoredState where
  | closed
  | opening
  /-- TALK, HOLD_ENTERING, HELD or HOLD_LEAVING, read from the hold target and the hold weight. -/
  | active
  | closing
deriving DecidableEq, Repr

/-- The hold source of a position (R21, R96). -/
inductive HoldSource where
  | prog (k : ProgId)
  | clip (c : ClipId)
deriving DecidableEq, Repr

/-- The capture mode of the echo report (R59). -/
inductive CaptureMode where
  | auto
  | single
deriving DecidableEq, Repr

/-- The parameters of a position (R21). -/
structure Params where
  sidetone : Nat
  holdSource : HoldSource
  holdGain : Nat
  nsProfile : ProfileId
  stepM : Nat
  regR : Nat
  dtRatio : Nat
  hangoverFrames : Nat
  convBand : Nat
  capture : CaptureMode
deriving DecidableEq, Repr

/-- The defaults of R21. -/
def Params.default : Params :=
  { sidetone := 410, holdSource := .prog 0, holdGain := 4096, nsProfile := 0, stepM := 64
    regR := 256, dtRatio := 2048, hangoverFrames := 480, convBand := 6, capture := .auto }

/-- The mute reasons (R11). -/
structure MuteReasons where
  key : Bool
  mgmt : Bool
  absent : Bool
deriving DecidableEq, Repr

/-- A pending key action (R10). -/
inductive KeyAction where
  | muteToggle
  | muteOn
  | muteOff
  | holdToggle
  | volumeUp
  | volumeDown
deriving DecidableEq, Repr

/-- The position record of R2. A gate target is 32 when its flag is set and 0 when it is clear.
(DESIGN CHOICE, safe: notes/assumptions/32.md). -/
structure Record where
  stored : StoredState
  hSlot : Option Slot
  tSlot : Option Slot
  wo : Nat
  outTarget : Bool
  h : Nat
  holdTarget : Bool
  holdWish : Bool
  holdPtr : Nat
  closeReq : Bool
  mute : MuteReasons
  wm : Nat
  muteTarget : Bool
  keys : List KeyAction
  volume : Nat
  params : Params
deriving DecidableEq, Repr

def Record.reset : Record :=
  { stored := .closed, hSlot := none, tSlot := none, wo := 0, outTarget := false, h := 0
    holdTarget := false, holdWish := false, holdPtr := 0, closeReq := false
    mute := { key := false, mgmt := false, absent := true }, wm := 0, muteTarget := false
    keys := [], volume := 10, params := .default }

/-! ## Tap pool (R24 to R26) -/

/-- A tap block: its index and its 64 coefficients. A block stands in exactly one list, the free list
or one position's block list, and takes its coefficients with it (R24, R25). -/
structure TapBlock where
  index : BlockIndex
  coefs : List Word
deriving DecidableEq, Repr

/-- An element of a position's block list (R26): attached, or reserved. -/
structure TapElem where
  block : TapBlock
  attached : Bool
deriving DecidableEq, Repr

/-- A pending tail change (R29, R30). -/
inductive TailChange where
  | grow
  /-- A shrink to the new length n. -/
  | shrink (n : Nat)
deriving DecidableEq, Repr

/-- What the tap pool holds for one position. -/
structure TapList where
  elems : List TapElem
  change : Option TailChange
deriving DecidableEq, Repr

def TapList.reset : TapList := { elems := [], change := none }

/-! ## Echo canceller (R35) -/

inductive EcState where
  | off
  | converging
  | converged
  | bypass
deriving DecidableEq, Repr

/-- The freeze set (R45). -/
structure FreezeSet where
  hold : Bool
  mgmt : Bool
  link : Bool
deriving DecidableEq, Repr

/-- The echo report record (R58). -/
structure EchoReport where
  state : EcState
  freeze : FreezeSet
  band : Nat
  returnEnergy : Nat
  residualEnergy : Nat
  peakTap : Option Nat
  peakCoef : Word
  dtFrames : Nat
  resetCount : Nat
deriving DecidableEq, Repr

/-- The cleared echo report (R58). -/
def EchoReport.cleared : EchoReport :=
  { state := .off, freeze := { hold := false, mgmt := false, link := false }, band := 0
    returnEnergy := 0, residualEnergy := 0, peakTap := none, peakCoef := 0, dtFrames := 0
    resetCount := 0 }

/-- The canceller context of one position (R35). -/
structure Canceller where
  state : EcState
  freeze : FreezeSet
  /-- The MODEL's own: the freeze set at the end of the last frame, on which the turn is judged
  (R48, R57). -/
  freezeEnd : FreezeSet
  /-- The 1024 newest send samples, newest first (R37). -/
  hist : List Word
  power : Nat
  winMax : Nat
  hangover : Nat
  sumD : Nat
  sumE : Nat
  dtFrames : Nat
  convCount : Nat
  divCount : Nat
  resetCount : Nat
  report : EchoReport
  unread : Bool
deriving DecidableEq, Repr

def Canceller.reset : Canceller :=
  { state := .off, freeze := { hold := false, mgmt := false, link := true }
    freezeEnd := { hold := false, mgmt := false, link := true }
    hist := List.replicate Config.historyLength 0, power := 0, winMax := 0, hangover := 0
    sumD := 0, sumE := 0, dtFrames := 0, convCount := 0, divCount := 0, resetCount := 0
    report := .cleared, unread := false }

/-! ## Noise suppressor (R63, R64) -/

/-- A suppression profile (R63). -/
structure Profile where
  attack : Nat
  release : Nat
  rise : Nat
  initialFloor : Nat
  upStep : Nat
  downStep : Nat
  curve : Vector Nat 8
  bypass : Bool
deriving DecidableEq, Repr

def Profile.reset : Profile :=
  { attack := 2, release := 6, rise := 8, initialFloor := 64, upStep := 64, downStep := 64
    curve := Vector.replicate 8 4096, bypass := false }

/-- The suppressor state of one position (R64). -/
structure Suppressor where
  env : Nat
  floor : Nat
  cycMin : Nat
  gain : Nat
deriving DecidableEq, Repr

def Suppressor.reset : Suppressor := { env := 0, floor := 64, cycMin := 32767, gain := 4096 }

/-! ## Prompt player (R117, R118) -/

inductive PlayerState where
  | idle
  | playing
  | finishing
deriving DecidableEq, Repr

/-- A prompt entry (R118). -/
structure PromptEntry where
  clip : ClipId
  repeats : Nat
  gain : Nat
  duck : Nat
  notify : Bool
deriving DecidableEq, Repr

/-- The player record of one position (R117). -/
structure Player where
  state : PlayerState
  queue : List PromptEntry
  readPtr : Nat
  remaining : Nat
  passes : Nat
  wd : Nat
  duckLevel : Nat
  startPending : Bool
deriving DecidableEq, Repr

def Player.reset : Player :=
  { state := .idle, queue := [], readPtr := 0, remaining := 0, passes := 0, wd := 0
    duckLevel := 4096, startPending := false }

/-! ## Earpiece protection (R128) -/

inductive ShockMode where
  | auto
  | latched
deriving DecidableEq, Repr

inductive ShockState where
  | normal
  | limiting
  | latched
  | releasing
deriving DecidableEq, Repr

/-- The shock parameters and the shock state of one position (R128). -/
structure Shock where
  threshold : Nat
  filterK : Nat
  limitGain : Nat
  holdTurns : Nat
  releaseStep : Nat
  mode : ShockMode
  ceiling : Nat
  state : ShockState
  sg : Nat
  overCount : Nat
  hold : Nat
deriving DecidableEq, Repr

def Shock.reset : Shock :=
  { threshold := 16384, filterK := 4, limitGain := 1024, holdTurns := 125, releaseStep := 16
    mode := .auto, ceiling := 28672, state := .normal, sg := 4096, overCount := 0, hold := 0 }

/-! ## One position -/

/-- The MODEL's own: the values of a position that stood at the start of the frame. The sample
arithmetic of a frame uses them, for a written parameter or volume index acts from the frame after
the write (R12, R20, R129). (DEDUCED, unsafe: notes/assumptions/9.md). POS_OPEN alone sets `params` within
the frame, to the defaults (R15, R62). (DEDUCED, unsafe: notes/assumptions/17.md). `readPtr` is some pointer when a POS_SET
has changed the hold source in this frame: the frame's hold input is still read at it, from the source
in `params`, while the record's pointer stands at 0 for the new source (R96).
(DEDUCED, unsafe: notes/assumptions/18.md). -/
structure InForce where
  params : Params
  volume : Nat
  readPtr : Option Nat
deriving DecidableEq, Repr

/-- Everything the part holds for one position. -/
structure PosState where
  record : Record
  taps : TapList
  ec : Canceller
  ns : Suppressor
  player : Player
  shock : Shock
  inForce : InForce
deriving DecidableEq, Repr

def PosState.reset : PosState :=
  { record := .reset, taps := .reset, ec := .reset, ns := .reset, player := .reset, shock := .reset
    inForce := { params := .default, volume := 10, readPtr := none } }

/-! ## Routes (R80, R81) -/

inductive SourceKind where
  | uplink
  | residual
deriving DecidableEq, Repr

inductive DestKind where
  | ear
  | send
deriving DecidableEq, Repr

/-- The source and the destination of a route (R80). -/
structure RoutePair where
  srcKind : SourceKind
  src : Position
  dstKind : DestKind
  dst : Position
deriving DecidableEq, Repr

structure Route where
  pair : RoutePair
  gain : Nat
deriving DecidableEq, Repr

structure RouteTables where
  active : List Route
  shadow : List Route
  commitPending : Bool
deriving DecidableEq, Repr

/-! ## Programme monitor (R100) -/

structure Programme where
  sounding : Bool
  threshold : Nat
  silenceCycles : Nat
  silentCount : Nat
  loud : Bool
deriving DecidableEq, Repr

def Programme.reset : Programme :=
  { sounding := false, threshold := 64, silenceCycles := 250, silentCount := 0, loud := false }

/-! ## Clip store (R107, R108) -/

inductive ClipState where
  | empty
  | loading
  | ready
  | retiring
deriving DecidableEq, Repr

structure Clip where
  state : ClipState
  start : Nat
  length : Nat
  fill : Nat
  uses : Nat
deriving DecidableEq, Repr

/-- An EMPTY record (R107). -/
def Clip.empty : Clip := { state := .empty, start := 0, length := 0, fill := 0, uses := 0 }

structure Extent where
  start : Nat
  length : Nat
deriving DecidableEq, Repr

/-- One listed word of clip memory. -/
abbrev ClipCell := Nat × Word

/-- The clip store. `mem` lists the words that are not 0, addresses strictly rising; an address it
does not list reads 0, the value after pin reset (R107). -/
structure ClipStore where
  clips : Vector Clip 64
  free : List Extent
  mem : List ClipCell
deriving DecidableEq, Repr

def ClipStore.reset : ClipStore :=
  { clips := Vector.replicate 64 .empty, free := [{ start := 0, length := Config.clipWords }]
    mem := [] }

/-! ## Key scanner (R138, R140) -/

/-- A debouncer: `level` is present for the presence input and down for a key. -/
structure Debouncer where
  level : Bool
  count : Nat
deriving DecidableEq, Repr

def Debouncer.reset : Debouncer := { level := false, count := 0 }

/-- The five debouncers of one H-slot. -/
structure SlotDebouncers where
  presence : Debouncer
  mute : Debouncer
  hold : Debouncer
  volUp : Debouncer
  volDown : Debouncer
deriving DecidableEq, Repr

def SlotDebouncers.reset : SlotDebouncers :=
  { presence := .reset, mute := .reset, hold := .reset, volUp := .reset, volDown := .reset }

inductive ReportEdges where
  | none
  | press
  | release
  | both
deriving DecidableEq, Repr

inductive MapAction where
  | none
  | toggleMute
  | muteWhileDown
  | holdToggle
  | volumeUp
  | volumeDown
deriving DecidableEq, Repr

structure KeyEntry where
  report : ReportEdges
  action : MapAction
  debounce : Fin 8
deriving DecidableEq, Repr

/-- The device key map (R140). -/
structure KeyMap where
  mute : KeyEntry
  hold : KeyEntry
  volUp : KeyEntry
  volDown : KeyEntry
deriving DecidableEq, Repr

def KeyMap.reset : KeyMap :=
  { mute := { report := .press, action := .toggleMute, debounce := 2 }
    hold := { report := .press, action := .holdToggle, debounce := 2 }
    volUp := { report := .none, action := .volumeUp, debounce := 2 }
    volDown := { report := .none, action := .volumeDown, debounce := 2 } }

/-! ## Links (R146, R150, R153) -/

/-- The frame timer. `aligned` is ALIGNED when set and FREE when clear. -/
structure Timer where
  number : FrameNumber
  aligned : Bool
deriving DecidableEq, Repr

inductive TLinkState where
  | down
  | acquiring
  | up
  | lost
deriving DecidableEq, Repr

/-- The T-link receiver. `lastGood` is the number of the last good marker, which ACQUIRING compares
with (R150). (DESIGN CHOICE, unsafe: notes/assumptions/10.md). -/
structure TLink where
  state : TLinkState
  good : Nat
  bad : Nat
  lastGood : FrameNumber
deriving DecidableEq, Repr

inductive HLinkState where
  | driving
  | conflict
deriving DecidableEq, Repr

structure HLink where
  state : HLinkState
  foreignCount : Nat
deriving DecidableEq, Repr

/-! ## Management path (R157 to R165) -/

/-- A message of the management channel: its kind and its body words. -/
structure Message where
  kind : Byte
  body : List Word
deriving DecidableEq, Repr

/-- A message in assembly (R157). -/
structure Assembly where
  kind : Byte
  length : Nat
  words : List Word
  sum : Word
  gaps : Nat
deriving DecidableEq, Repr

/-- The management receiver. `assembly` is none while it is idle; `overrun` is set in OVERRUN and
clear in READY. -/
structure Receiver where
  assembly : Option Assembly
  breakRun : Nat
  overrun : Bool
  checkFailures : Nat
  framingErrors : Nat
  discards : Nat
deriving DecidableEq, Repr

def Receiver.reset : Receiver :=
  { assembly := none, breakRun := 0, overrun := false, checkFailures := 0, framingErrors := 0
    discards := 0 }

inductive ReplyCode where
  | done
  | doneClamped
  | doneShort
  | refusedState
  | refusedRange
  | refusedBusy
  | refusedRoom
  | refusedKind
  | refusedLoop
  | refusedLength
deriving DecidableEq, Repr

/-- A reply in the reply buffer: the command kind, the code and the result words. -/
structure Reply where
  kind : Byte
  code : ReplyCode
  results : List Word
deriving DecidableEq, Repr

/-- The state of the command unit (R162, R167). The last three are held for a reset: with the reply
still in the buffer, with the reply gone in the present frame, and with the reset due. -/
inductive UnitState where
  | ready
  | heldCommit
  | heldReset
  | heldResetReplyGone
  | heldResetDue
deriving DecidableEq, Repr

inductive Edge where
  | press
  | release
deriving DecidableEq, Repr

inductive DropCause where
  | urgent
  | stopNow
  | flush
  | close
deriving DecidableEq, Repr

inductive AbortCause where
  | link
  | brk
deriving DecidableEq, Repr

/-- The events (section 12.6), each with its position and details. -/
inductive Event where
  | key (p : Position) (k : Key) (e : Edge)
  | headsetOn (p : Position)
  | headsetOff (p : Position)
  | shockOn (p : Position) (volume limitGain : Nat) (mode : ShockMode)
  | shockOff (p : Position)
  | ecConverged (p : Position) (band : Nat)
  | ecDiverged (p : Position) (resets : Nat)
  | ecBypassed (p : Position)
  | promptDone (p : Position) (c : ClipId) (passes : Nat)
  | promptDropped (p : Position) (c : ClipId) (passes : Nat) (cause : DropCause)
  | routesDropped (p : Position) (active shadow : Nat)
  | posClosed (p : Position)
  | clipFreed (c : ClipId)
  | clipAborted (c : ClipId) (fill : Nat) (cause : AbortCause)
  | progSilent (k : ProgId)
  | progBack (k : ProgId)
  | linkTrunk (state : TLinkState)
  | linkHeadset (state : HLinkState)
  | overrun (kind : Byte)
  | mgmtReady
deriving DecidableEq, Repr

/-- The message in transmission (R165): the oldest reply or the oldest event, with the number of its
symbols already sent. -/
structure Transmission where
  isReply : Bool
  sent : Nat
deriving DecidableEq, Repr

structure Arbiter where
  tx : Option Transmission
  owed : Nat
deriving DecidableEq, Repr

/-! ## Outgoing frames (R148, R149) -/

/-- The audio slots computed on the inputs of one frame. -/
structure AudioFrame where
  trunk : Vector Word 32
  ear : Vector Word 32
deriving DecidableEq, Repr

def AudioFrame.silent : AudioFrame :=
  { trunk := Vector.replicate 32 0, ear := Vector.replicate 32 0 }

/-- An outgoing T-link frame: marker, slots 0 to 31, slots 32 to 35, slots 36 and 37. -/
structure TFrame where
  marker : Word
  audio : Vector Word 32
  programmes : Vector Word 4
  tag : Word
  data : Word
deriving DecidableEq, Repr

/-- An outgoing H-link frame: marker, slots 0 to 31, slot 32. -/
structure HFrame where
  marker : Word
  audio : Vector Word 32
  indicator : Word
deriving DecidableEq, Repr

/-- What the part drives: the frames formed last. None while nothing is driven. `computed` and
`earlier` are the audio computed on the last frame and on the frame before it (R149). -/
structure Outputs where
  tFrame : Option TFrame
  hFrame : Option HFrame
  computed : AudioFrame
  earlier : AudioFrame
deriving DecidableEq, Repr

def Outputs.reset : Outputs :=
  { tFrame := none, hFrame := none, computed := .silent, earlier := .silent }

/-! ## The frame in progress: the MODEL's own fields -/

/-- Where an event of the frame stands (R170): the block in whose run it is; the block of an event of its
own cause, behind which it stays (R114); and whether it depends on the step of a reply of the frame, so that
it cannot be queued before that reply (R165). (DESIGN CHOICE, unsafe: notes/assumptions/41.md). -/
structure EventRun where
  block : EventBlock
  behind : Option EventBlock
  tied : Bool
deriving DecidableEq, Repr

/-- What has been done in the frame in progress. (DEDUCED, unsafe: notes/assumptions/9.md). -/
structure FrameFlags where
  /-- The frame's computation has been made. -/
  computed : Bool
  /-- The kind of the message that the command unit has taken in this frame, if it has taken one (R162). -/
  taken : Option Byte
  /-- The turn of the frame's position has been made (R5, R146). -/
  turnDone : Bool
  /-- The programme monitor's work of this cycle start has been done (R102). -/
  monitorDone : Bool
  /-- The suppressor's work of this cycle start has been done (R73). -/
  profilesDone : Bool
  /-- The profiles whose pending copy that work ended (R73, R74). -/
  copiesApplied : Vector Bool 4
  /-- The mix engine's work of this cycle start has been done (R87). -/
  commitDone : Bool
  /-- LINK_ARM ended a conflict in this frame: the H-link is driven from the next frame (R154). -/
  armed : Bool
  /-- The frame in which the T-link became LOST has ended (R150). -/
  lostEnded : Bool
  /-- The quiet window of the frame has been sensed (R153). -/
  sensed : Bool
  /-- A valid status word has arrived in the frame (R137). -/
  arrived : Bool
  /-- Valid status words of the frame that are not taken yet: its quiet window, still to come, may
  declare CONFLICT, which makes them invalid (R137, R153). -/
  heldWords : List Word
  /-- Replies placed in this frame, the newest of the buffer (R165). -/
  newReplies : Nat
  /-- Where the events queued in this frame stand, one entry for each, in the order of the queue: its
  length is the number of them, the newest of the queue (R165, R170). Those whose places an event's TAIL has
  settled are left out. -/
  runs : List EventRun
  /-- The events of this frame that found the queue full, with where they stand (R164, R170). -/
  lost : List (EventRun × Event)
deriving DecidableEq, Repr

def FrameFlags.fresh : FrameFlags :=
  { computed := false, taken := none, turnDone := false, monitorDone := false
    profilesDone := false, copiesApplied := Vector.replicate 4 false, commitDone := false, armed := false, lostEnded := false
    sensed := false, arrived := false, heldWords := [], newReplies := 0, runs := [], lost := [] }

/-- What stood at the start of the frame in the shared tables, for the changes that act from the
frame after: the active routes (R87, R90), the programme states (R102), the fallback clip (R104) and
the clip table, through which a hold source changed in the frame is still read (R96); and the indicator
word formed before everything else in the frame (R144).
(DEDUCED, unsafe: notes/assumptions/9.md). -/
structure Latch where
  routes : List Route
  sounding : Vector Bool 4
  fallback : Option ClipId
  clips : Vector Clip 64
  indicator : Word
deriving DecidableEq, Repr

/-! ## The whole part -/

structure State where
  timer : Timer
  tlink : TLink
  hlink : HLink
  pos : Vector PosState 32
  freeTaps : List TapBlock
  profiles : Vector Profile 4
  pendingProfiles : Vector (Option Profile) 4
  routes : RouteTables
  progs : Vector Programme 4
  fallback : Option ClipId
  store : ClipStore
  debouncers : Vector SlotDebouncers 32
  keymap : KeyMap
  receiver : Receiver
  inputQueue : List Message
  cmdUnit : UnitState
  replies : List Reply
  events : List Event
  eventsLost : Nat
  arbiter : Arbiter
  outputs : Outputs
  flags : FrameFlags
  latch : Latch
  /-- RESET_N is held low (R155). -/
  resetLow : Bool
  /-- The MODEL's own: how many frames have been cut short (R147), the argument of the free value
  `Config.cutShort`. (DESIGN CHOICE, unsafe: notes/assumptions/13.md). -/
  cuts : Nat
  /-- The MODEL's own: the commands that wait, first in first out. -/
  pending : List Instr
deriving DecidableEq, Repr

/-- The free list after reset: the 256 blocks in ascending order (R24). -/
def resetTaps : List TapBlock :=
  (List.finRange 256).map fun i => { index := i, coefs := List.replicate Config.blockTaps 0 }

/-- The part after the release of RESET_N (R155): every block at the reset values of its chapter.
(DESIGN CHOICE, unsafe: notes/assumptions/10.md). -/
def State.reset : State :=
  { timer := { number := 0, aligned := false }
    tlink := { state := .down, good := 0, bad := 0, lastGood := 0 }
    hlink := { state := .driving, foreignCount := 0 }
    pos := Vector.replicate 32 .reset
    freeTaps := resetTaps
    profiles := Vector.replicate 4 .reset
    pendingProfiles := Vector.replicate 4 none
    routes := { active := [], shadow := [], commitPending := false }
    progs := Vector.replicate 4 .reset
    fallback := none
    store := .reset
    debouncers := Vector.replicate 32 .reset
    keymap := .reset
    receiver := .reset
    inputQueue := []
    cmdUnit := .ready
    replies := []
    events := []
    eventsLost := 0
    arbiter := { tx := none, owed := 0 }
    outputs := .reset
    flags := .fresh
    latch :=
      { routes := [], sounding := Vector.replicate 4 false, fallback := none
        clips := Vector.replicate 64 .empty, indicator := 0 }
    resetLow := false
    cuts := 0
    pending := [] }

/-- The machine faults that stop the part. The manual gives none: a refused command is answered with
a refusal code, a bad symbol is counted, and every event raises a report, so the type has no member
and no step can fault. (DEDUCED, unsafe: notes/assumptions/26.md). -/
inductive Fault where
deriving DecidableEq, Repr

/-- The reasons for which the model would give a command no meaning. -/
inductive Refusal where
  /-- Raised by `exec` alone, for a command whose meaning is not written: safe, for the run stops.
  No arm raises it. -/
  | notModelled (mnemonic : String)
deriving DecidableEq, Repr

end Sys2Proof.Machine
end

