-- ==== Sys2Proof/Machine/Arith.lean ====
section
/-!
DEFINITION. The arithmetic of the introduction (R1): rounding, saturation, clamping, the weight step,
and how numbers are laid into words.
-/

namespace Sys2Proof.Machine

/-- `n / d` rounded to the nearest integer, halves away from zero (R1). -/
def roundDiv (n : Int) (d : Nat) : Int :=
  if 0 ≤ n then ((2 * n.toNat + d) / (2 * d) : Nat)
  else -((2 * (-n).toNat + d) / (2 * d) : Nat)

/-- Saturated to `lo` … `hi` (R1). -/
def saturate (lo hi n : Int) : Int := max lo (min hi n)

/-- Saturated to the sample range (R1). -/
def satSample (n : Int) : Int := saturate (-32768) 32767 n

/-- The sample that a word carries: two's complement (section 12). -/
def sampleOf (w : Word) : Int := w.toInt

/-- The word that carries a sample. -/
def wordOfSample (n : Int) : Word := BitVec.ofInt 16 n

/-- Limited to `lo` … `hi`: a numeric value outside its range is stored at the nearest end (R13). -/
def clampNat (lo hi n : Nat) : Nat := max lo (min hi n)

/-- One step of a weight toward its target (R3). -/
def stepToward (w target : Nat) : Nat :=
  if w < target then w + 1 else if target < w then w - 1 else w

/-- A gate target: 32 when its flag is set, else 0 (R2). -/
def gateTarget (on : Bool) : Nat := if on then 32 else 0

/-- A count raised by 1, saturating at 65535 (R159, R164). -/
def countUp (n : Nat) : Nat := min Config.countLimit (n + 1)

/-- A number in a word of its own, saturating at the word's largest value (R169). -/
def numWord (n : Nat) : Word := BitVec.ofNat 16 (min n 65535)

/-- Two fields in the hi and lo bytes of one word, each saturating at its place's largest value
(section 12, R169). -/
def packBytes (hi lo : Nat) : Word := BitVec.ofNat 16 (min hi 255 * 256 + min lo 255)

/-- A value in two words, the high word first (section 12). -/
def twoWords (n : Nat) : List Word :=
  let m := min n 4294967295
  [BitVec.ofNat 16 (m / 65536), BitVec.ofNat 16 (m % 65536)]

/-- The value of two words, the high word first (R168). -/
def ofTwoWords (hi lo : Word) : Nat := hi.toNat * 65536 + lo.toNat

/-- The hi byte of a word. -/
def hiByte (w : Word) : Byte := BitVec.ofNat 8 (w.toNat / 256)

/-- The lo byte of a word. -/
def loByte (w : Word) : Byte := BitVec.ofNat 8 w.toNat

/-- A flag as a number. -/
def bit (b : Bool) : Nat := if b then 1 else 0

/-- The frame number after `n`, wrapping from 31 to 0 (R146). -/
def nextNumber (n : FrameNumber) : FrameNumber := n + 1

end Sys2Proof.Machine
end

