-- ==== Sys2Proof/Machine/Memory.lean ====
section
/-!
DEFINITION. Clip memory (R107) and its free-extent list (R108).

Clip memory is 524288 words. It is held as the list of its words that are not 0, addresses strictly
rising; every other word reads 0, which is what pin reset gives it (R107).
Its cells are words, the unit of the manual (DESIGN CHOICE, safe: notes/assumptions/33.md).
-/

namespace Sys2Proof.Machine

/-- The word at an address. An address that is not listed reads 0 (R107). -/
def memRead : List ClipCell → Nat → Word
  | [], _ => 0
  | (b, w) :: rest, a => if b = a then w else memRead rest a

/-- The list with `a` reading `w`, for an address of the memory. Writing 0 unlists the address. -/
def memPut : List ClipCell → Nat → Word → List ClipCell
  | [], a, w => if w = 0 then [] else [(a, w)]
  | (b, v) :: rest, a, w =>
    if b < a then (b, v) :: memPut rest a w
    else if b = a then (if w = 0 then rest else (a, w) :: rest)
    else if w = 0 then (b, v) :: rest else (a, w) :: (b, v) :: rest

/-- Write one word. Addresses run from 0 to 524287; no command writes at another (R108). -/
def memWrite (m : List ClipCell) (a : Nat) (w : Word) : List ClipCell :=
  if a < Config.clipWords then memPut m a w else m

/-- Write words in order from an address on. -/
def memWriteAll : List ClipCell → Nat → List Word → List ClipCell
  | m, _, [] => m
  | m, a, w :: ws => memWriteAll (memWrite m a w) (a + 1) ws

/-- Addresses rise strictly from `lo` on, each below the memory's size, and no listed word is 0. -/
def memWfFrom : Nat → List ClipCell → Bool
  | _, [] => true
  | lo, (a, w) :: rest => decide (lo ≤ a) && decide (a < Config.clipWords) && decide (w ≠ 0) && memWfFrom (a + 1) rest

/-- The canonical form of clip memory. -/
def Memory.wf (m : List ClipCell) : Bool := memWfFrom 0 m

/-- First fit (R108): the start of the allocated extent and the list after it, or none when no extent
is at least `n` long. -/
def allocate (n : Nat) : List Extent → Option (Nat × List Extent)
  | [] => none
  | x :: xs =>
    if n ≤ x.length then
      some (x.start, if x.length = n then xs else { start := x.start + n, length := x.length - n } :: xs)
    else
      match allocate n xs with
      | none => none
      | some (a, ys) => some (a, x :: ys)

/-- Release (R108): the extent is placed in address order and joined with the extents it touches. -/
def releaseExtent (e : Extent) : List Extent → List Extent
  | [] => [e]
  | x :: xs =>
    if e.start + e.length = x.start then { start := e.start, length := e.length + x.length } :: xs
    else if e.start < x.start then e :: x :: xs
    else if x.start + x.length = e.start then
      match xs with
      | [] => [{ start := x.start, length := x.length + e.length }]
      | y :: ys =>
        if e.start + e.length = y.start then
          { start := x.start, length := x.length + e.length + y.length } :: ys
        else { start := x.start, length := x.length + e.length } :: y :: ys
    else x :: releaseExtent e xs

/-- The longest extent, 0 for an empty list (R108). -/
def largestExtent (l : List Extent) : Nat := l.foldl (fun m e => max m e.length) 0

/-- The words owned by clips that are not EMPTY (R108). -/
def ownedWords (clips : Vector Clip 64) : Nat :=
  clips.toList.foldl (fun n c => if c.state = .empty then n else n + c.length) 0

/-- The free words (R108): 524288 less the lengths of the clips that are not EMPTY. -/
def freeWords (clips : Vector Clip 64) : Nat := Config.clipWords - ownedWords clips

/-- Word `i` of a clip (R107). -/
def clipWord (mem : List ClipCell) (c : Clip) (i : Nat) : Word := memRead mem (c.start + i)

/-! ## Records and use counts (R113, R114) -/

def ClipStore.clip (st : ClipStore) (c : ClipId) : Clip := st.clips[c.val]

def ClipStore.setClip (st : ClipStore) (c : ClipId) (r : Clip) : ClipStore :=
  { st with clips := st.clips.set c.val r }

/-- The clip's extent is released and its record becomes EMPTY (R108, R111, R114). -/
def ClipStore.emptyClip (st : ClipStore) (c : ClipId) : ClipStore :=
  let r := st.clip c
  { (st.setClip c .empty) with free := releaseExtent { start := r.start, length := r.length } st.free }

/-- One more use of a clip (R113). -/
def ClipStore.takeUse (st : ClipStore) (c : ClipId) : ClipStore :=
  st.setClip c { st.clip c with uses := (st.clip c).uses + 1 }

/-- One use of a clip is released (R113). A RETIRING clip that reaches 0 becomes EMPTY, frees its
extent and gives CLIP_FREED (R114). -/
def ClipStore.releaseUse (st : ClipStore) (c : ClipId) : ClipStore × List Event :=
  let r := st.clip c
  let st' := st.setClip c { r with uses := r.uses - 1 }
  if r.state = .retiring ∧ r.uses - 1 = 0 then (st'.emptyClip c, [.clipFreed c]) else (st', [])

/-- The clip that is LOADING, if one is (R108: at most one). -/
def ClipStore.loadingClip (st : ClipStore) : Option ClipId :=
  (List.finRange 64).find? fun c => (st.clip c).state = .loading

end Sys2Proof.Machine
end

