-- ==== Sys2Proof/Machine/Operands.lean ====
section
/-!
DEFINITION. How body words are read (R168) and how fields are written into words (R169): the codes of
section 12.3. A word that carries an identifier or a code is compared whole.
-/

namespace Sys2Proof.Machine

/-! ## Reading (R168) -/

def posOf (w : Word) : Option Position := if h : w.toNat < 32 then some ⟨w.toNat, h⟩ else none

/-- A slot word: 0 to 31, or none as 0x00FF. The outer option is none for a word that is neither. -/
def slotOf (w : Word) : Option (Option Slot) :=
  if h : w.toNat < 32 then some (some ⟨w.toNat, h⟩) else if w = 0x00FF then some none else none

def clipOf (w : Word) : Option ClipId := if h : w.toNat < 64 then some ⟨w.toNat, h⟩ else none

/-- A fallback word: a clip, or none as 0x00FF (R104). -/
def clipOrNoneOf (w : Word) : Option (Option ClipId) :=
  if h : w.toNat < 64 then some (some ⟨w.toNat, h⟩) else if w = 0x00FF then some none else none

def progOf (w : Word) : Option ProgId := if h : w.toNat < 4 then some ⟨w.toNat, h⟩ else none

def profileOf (w : Word) : Option ProfileId := if h : w.toNat < 4 then some ⟨w.toNat, h⟩ else none

/-- An on/off, notify, urgent or bypass code: 0 off, 1 on. -/
def onOffOf (w : Word) : Option Bool :=
  if w = 0 then some false else if w = 1 then some true else none

/-- A hold source value: 0 to 3 PROG0 to PROG3, 0x0100 to 0x013F CLIP 0 to 63. -/
def holdSourceOf (w : Word) : Option HoldSource :=
  if h : w.toNat < 4 then some (.prog ⟨w.toNat, h⟩)
  else if h : 256 ≤ w.toNat ∧ w.toNat < 320 then some (.clip ⟨w.toNat - 256, by omega⟩)
  else none

def captureOf (w : Word) : Option CaptureMode :=
  if w = 0 then some .auto else if w = 1 then some .single else none

def shockModeOf (w : Word) : Option ShockMode :=
  if w = 0 then some .auto else if w = 1 then some .latched else none

def srcKindOf (w : Word) : Option SourceKind :=
  if w = 0 then some .uplink else if w = 1 then some .residual else none

def dstKindOf (w : Word) : Option DestKind :=
  if w = 0 then some .ear else if w = 1 then some .send else none

def keyOf (w : Word) : Option Key :=
  if w = 0 then some .mute else if w = 1 then some .hold
  else if w = 2 then some .volUp else if w = 3 then some .volDown else none

def reportOf (w : Word) : Option ReportEdges :=
  if w = 0 then some .none else if w = 1 then some .press
  else if w = 2 then some .release else if w = 3 then some .both else none

def actionOf (w : Word) : Option MapAction :=
  if w = 0 then some .none else if w = 1 then some .toggleMute
  else if w = 2 then some .muteWhileDown else if w = 3 then some .holdToggle
  else if w = 4 then some .volumeUp else if w = 5 then some .volumeDown else none

def debounceOf (w : Word) : Option (Fin 8) := if h : w.toNat < 8 then some ⟨w.toNat, h⟩ else none

/-- A numeric word limited to its range, with whether it lay outside (R13, R168). -/
def clampWord (lo hi : Nat) (w : Word) : Nat × Bool :=
  (clampNat lo hi w.toNat, decide (w.toNat < lo) || decide (hi < w.toNat))

/-- The code of a taken command: DONE_CLAMPED if a value was clamped, else DONE (R13). -/
def doneCode (clamped : Bool) : ReplyCode := if clamped then .doneClamped else .done

/-! ## Writing (R169, section 12.3) -/

def codeOfReply : ReplyCode → Nat
  | .done => 0x00
  | .doneClamped => 0x01
  | .doneShort => 0x02
  | .refusedState => 0x10
  | .refusedRange => 0x11
  | .refusedBusy => 0x12
  | .refusedRoom => 0x13
  | .refusedKind => 0x14
  | .refusedLoop => 0x15
  | .refusedLength => 0x16

def codeOfEc : EcState → Nat
  | .off => 0
  | .converging => 1
  | .converged => 2
  | .bypass => 3

def codeOfClip : ClipState → Nat
  | .empty => 0
  | .loading => 1
  | .ready => 2
  | .retiring => 3

def codeOfShock : ShockState → Nat
  | .normal => 0
  | .limiting => 1
  | .latched => 2
  | .releasing => 3

def codeOfShockMode : ShockMode → Nat
  | .auto => 0
  | .latched => 1

def codeOfCapture : CaptureMode → Nat
  | .auto => 0
  | .single => 1

def codeOfTLink : TLinkState → Nat
  | .down => 0
  | .acquiring => 1
  | .up => 2
  | .lost => 3

def codeOfHLink : HLinkState → Nat
  | .driving => 0
  | .conflict => 1

def codeOfKey : Key → Nat
  | .mute => 0
  | .hold => 1
  | .volUp => 2
  | .volDown => 3

def codeOfEdge : Edge → Nat
  | .press => 1
  | .release => 2

def codeOfReport : ReportEdges → Nat
  | .none => 0
  | .press => 1
  | .release => 2
  | .both => 3

def codeOfAction : MapAction → Nat
  | .none => 0
  | .toggleMute => 1
  | .muteWhileDown => 2
  | .holdToggle => 3
  | .volumeUp => 4
  | .volumeDown => 5

def codeOfDrop : DropCause → Nat
  | .urgent => 0
  | .stopNow => 1
  | .flush => 2
  | .close => 3

def codeOfAbort : AbortCause → Nat
  | .link => 0
  | .brk => 1

def codeOfHoldSource : HoldSource → Nat
  | .prog k => k.val
  | .clip c => 256 + c.val

/-- A slot in a field: its number, or none as 0xFF. -/
def codeOfSlot : Option Slot → Nat
  | none => 0xFF
  | some k => k.val

/-- The fallback setting in a word: the clip, or none as 0x00FF. -/
def codeOfFallback : Option ClipId → Nat
  | none => 0xFF
  | some c => c.val

/-- A route word (section 12.4, note 1). -/
def routeWord (r : RoutePair) : Word :=
  BitVec.ofNat 16
    (bit (r.srcKind = .residual) * 32768 + r.src.val * 256 + bit (r.dstKind = .send) * 128 + r.dst.val)

/-- A map word (section 12.4, note 2). -/
def mapWord (e : KeyEntry) : Word :=
  BitVec.ofNat 16 (codeOfReport e.report + codeOfAction e.action * 16 + e.debounce.val * 256)

/-! ## Messages on the link (R156, section 12.2) -/

def tagGap : Word := 0x0000
def tagHead : Word := 0x1E01
def tagBody : Word := 0x1E02
def tagTail : Word := 0x1E03
def tagBrk : Word := 0x1EFF

/-- The HEAD data word: the kind in the high byte, the body length in the low byte. -/
def headWord (kind : Byte) (length : Nat) : Word := BitVec.ofNat 16 (kind.toNat * 256 + length)

/-- The check: the sum modulo 65536 of the HEAD data word and every BODY data word. -/
def checkWord (kind : Byte) (body : List Word) : Word :=
  body.foldl (· + ·) (headWord kind body.length)

/-- The symbols of a message, each a tag word and a data word. -/
def symbolsOf (m : Message) : List (Word × Word) :=
  (tagHead, headWord m.kind m.body.length) ::
    (m.body.map fun w => (tagBody, w)) ++ [(tagTail, checkWord m.kind m.body)]

/-- A reply as a message: kind 0x80, word 0 with the command kind and the code, then the results. -/
def replyMessage (r : Reply) : Message :=
  { kind := 0x80, body := packBytes r.kind.toNat (codeOfReply r.code) :: r.results }

/-- Word 0 of an event: the event kind and the position, or 0xFF (section 12.6). -/
def eventHead (code : Nat) (p : Option Position) : Word :=
  packBytes code (match p with | none => 0xFF | some q => q.val)

/-- The body of an event (section 12.6). -/
def eventBody : Event → List Word
  | .key p k e => [eventHead 0x01 (some p), packBytes (codeOfKey k) (codeOfEdge e)]
  | .headsetOn p => [eventHead 0x02 (some p)]
  | .headsetOff p => [eventHead 0x03 (some p)]
  | .shockOn p v g m => [eventHead 0x04 (some p), packBytes v (codeOfShockMode m), numWord g]
  | .shockOff p => [eventHead 0x05 (some p)]
  | .ecConverged p b => [eventHead 0x06 (some p), numWord b]
  | .ecDiverged p n => [eventHead 0x07 (some p), numWord n]
  | .ecBypassed p => [eventHead 0x08 (some p)]
  | .promptDone p c n => [eventHead 0x09 (some p), packBytes c.val n]
  | .promptDropped p c n d => [eventHead 0x0A (some p), packBytes c.val n, numWord (codeOfDrop d)]
  | .routesDropped p a s => [eventHead 0x0B (some p), packBytes a s]
  | .posClosed p => [eventHead 0x0C (some p)]
  | .clipFreed c => [eventHead 0x0D none, numWord c.val]
  | .clipAborted c f d => [eventHead 0x0E none, packBytes c.val (codeOfAbort d)] ++ twoWords f
  | .progSilent k => [eventHead 0x0F none, numWord k.val]
  | .progBack k => [eventHead 0x10 none, numWord k.val]
  | .linkTrunk st => [eventHead 0x11 none, packBytes 0 (codeOfTLink st)]
  | .linkHeadset st => [eventHead 0x11 none, packBytes 1 (codeOfHLink st)]
  | .overrun kind => [eventHead 0x12 none, numWord kind.toNat]
  | .mgmtReady => [eventHead 0x13 none]

/-- An event as a message: kind 0x81. -/
def eventMessage (e : Event) : Message := { kind := 0x81, body := eventBody e }

/-- The marker word of a frame: the sync pattern 0x74B and the frame number (section 12.1). -/
def markerWord (n : FrameNumber) : Word := BitVec.ofNat 16 (0x74B * 32 + n.val)

/-- The sync pattern is present in a word. -/
def hasSync (w : Word) : Bool := decide (w.toNat / 32 = 0x74B)

/-- The frame number that a marker word carries. -/
def markerNumber (w : Word) : FrameNumber := ⟨w.toNat % 32, Nat.mod_lt _ (by decide)⟩

end Sys2Proof.Machine
end

