-- ==== Sys2Proof/Machine/Flags.lean ====
section
/-!
DEFINITION. The states and flags that are read from other fields: the call state (R4), the freeze set
(R45), the mute reason set (R11), the attached count (R26), and the packed flag words.
-/

namespace Sys2Proof.Machine

/-- The state of a position as a reply shows it (section 12.3). -/
inductive CallState where
  | closed
  | opening
  | talk
  | holdEntering
  | held
  | holdLeaving
  | closing
deriving DecidableEq, Repr

/-- The call state: the stored state, or for a talk-and-hold position the state read from the hold
target and the hold weight (R4). -/
def callState (r : Record) : CallState :=
  match r.stored with
  | .closed => .closed
  | .opening => .opening
  | .closing => .closing
  | .active =>
    if r.holdTarget then (if r.h < 32 then .holdEntering else .held)
    else if r.h = 0 then .talk else .holdLeaving

def codeOfCall : CallState → Nat
  | .closed => 0
  | .opening => 1
  | .talk => 2
  | .holdEntering => 3
  | .held => 4
  | .holdLeaving => 5
  | .closing => 6

/-- No freeze reason is present (R43, R46). -/
def FreezeSet.isEmpty (f : FreezeSet) : Bool := !f.hold && !f.mgmt && !f.link

/-- The freeze set in bits: bit 0 HOLD, bit 1 MGMT, bit 2 LINK. -/
def FreezeSet.bits (f : FreezeSet) : Nat := bit f.hold + bit f.mgmt * 2 + bit f.link * 4

/-- No mute reason is present (R11). -/
def MuteReasons.isEmpty (m : MuteReasons) : Bool := !m.key && !m.mgmt && !m.absent

/-- The mute reasons in bits: bit 0 KEY, bit 1 MGMT, bit 2 ABSENT. -/
def MuteReasons.bits (m : MuteReasons) : Nat := bit m.key + bit m.mgmt * 2 + bit m.absent * 4

/-- The attached count A of a block list (R26). -/
def attachedCount (l : List TapElem) : Nat := (l.filter fun e => e.attached).length

/-- The reserved count of a block list (R26). -/
def reservedCount (l : List TapElem) : Nat := (l.filter fun e => !e.attached).length

/-- The window length L = 64 × A in taps (R26). -/
def windowLength (l : List TapElem) : Nat := Config.blockTaps * attachedCount l

/-- The coefficients of the attached blocks, tap 0 first (R35). -/
def tapCoefs (l : List TapElem) : List Word :=
  (l.filter fun e => e.attached).flatMap fun e => e.block.coefs

/-- The regularisation D of a setting r (R43). -/
def regD (p : Params) : Nat := p.regR * 65536

/-- The volume gain of an index (R12). -/
def volumeGain (index : Nat) : Nat :=
  [410, 516, 649, 817, 1029, 1295, 1631, 2053, 2584, 3254, 4096, 5157, 6492, 8173, 10289, 12953].getD
    index 12953

/-- The number V of consecutive valid arrivals of a debounce code (R138). -/
def debounceArrivals (code : Fin 8) : Nat := [0, 1, 2, 4, 8, 16, 32, 64].getD code.val 64

def KeyMap.entry (m : KeyMap) : Key → KeyEntry
  | .mute => m.mute
  | .hold => m.hold
  | .volUp => m.volUp
  | .volDown => m.volDown

def KeyMap.setEntry (m : KeyMap) (k : Key) (e : KeyEntry) : KeyMap :=
  match k with
  | .mute => { m with mute := e }
  | .hold => { m with hold := e }
  | .volUp => { m with volUp := e }
  | .volDown => { m with volDown := e }

def SlotDebouncers.ofKey (d : SlotDebouncers) : Key → Debouncer
  | .mute => d.mute
  | .hold => d.hold
  | .volUp => d.volUp
  | .volDown => d.volDown

def SlotDebouncers.setKey (d : SlotDebouncers) (k : Key) (x : Debouncer) : SlotDebouncers :=
  match k with
  | .mute => { d with mute := x }
  | .hold => { d with hold := x }
  | .volUp => { d with volUp := x }
  | .volDown => { d with volDown := x }

/-- The indicator word of a position: bit 4 open, 3 mute lit, 2 hold lit, 1 prompt, 0 shock (R144,
section 12.1). -/
def indicatorOf (x : PosState) : Word :=
  BitVec.ofNat 16
    (bit (x.record.stored ≠ .closed) * 16 + bit (!x.record.mute.isEmpty) * 8 + bit x.record.holdTarget * 4
      + bit (x.player.state ≠ .idle) * 2 + bit (x.shock.state ≠ .normal))

end Sys2Proof.Machine
end

