-- ==== Sys2Proof/Machine/Ops.lean ====
section
/-!
DEFINITION. The shared operations over the state: reading and writing one position, raising an event in the
run of its block, placing a reply, moving tap blocks, releasing clip uses, emptying the reply buffer.
-/

namespace Sys2Proof.Machine

/-! ## Positions -/

/-- What the part holds for position p. -/
def State.posn (s : State) (p : Position) : PosState := s.pos[p.val]

def State.setPosn (s : State) (p : Position) (x : PosState) : State :=
  { s with pos := s.pos.set p.val x }

def State.modPosn (s : State) (p : Position) (f : PosState → PosState) : State :=
  s.setPosn p (f (s.posn p))

/-- Every position through the same function. -/
def State.mapPosns (s : State) (f : Position → PosState → PosState) : State :=
  { s with pos := Vector.ofFn fun p => f p (s.posn p) }

/-- A change of the position record alone. -/
def State.modRecord (s : State) (p : Position) (f : Record → Record) : State :=
  s.modPosn p fun x => { x with record := f x.record }

/-- A change of the canceller context alone. -/
def State.modEc (s : State) (p : Position) (f : Canceller → Canceller) : State :=
  s.modPosn p fun x => { x with ec := f x.ec }

/-- The position that holds an H-slot, if one does (R141, R148). -/
def State.hOwner (s : State) (k : Slot) : Option Position :=
  (List.finRange 32).find? fun p => (s.posn p).record.hSlot = some k

/-- The position that holds a T-slot, if one does (R148). -/
def State.tOwner (s : State) (k : Slot) : Option Position :=
  (List.finRange 32).find? fun p => (s.posn p).record.tSlot = some k

/-! ## Whose events they are -/

/-- The block in whose run an event stands, where the step that raises it names no other. The events of a
teardown are the position controller's (R8), CLIP_FREED among them, and CLIP_ABORTED stands among the steps of
the loss of the trunk (R151) or of the break (R158). (DESIGN CHOICE, unsafe: notes/assumptions/41.md). -/
def Event.block : Event → EventBlock
  | .key _ _ _ => .keys
  | .headsetOn _ => .keys
  | .headsetOff _ => .keys
  | .shockOn _ _ _ _ => .earpiece
  | .shockOff _ => .earpiece
  | .ecConverged _ _ => .canceller
  | .ecDiverged _ _ => .canceller
  | .ecBypassed _ => .canceller
  | .promptDone _ _ _ => .players
  | .promptDropped _ _ _ cause =>
    match cause with
    | .close => .positions
    | .urgent => .players
    | .stopNow => .players
    | .flush => .players
  | .routesDropped _ _ _ => .positions
  | .posClosed _ => .positions
  | .clipFreed _ => .clips
  | .clipAborted _ _ cause =>
    match cause with
    | .link => .trunk
    | .brk => .receiver
  | .progSilent _ => .monitor
  | .progBack _ => .monitor
  | .linkTrunk _ => .trunk
  | .linkHeadset _ => .headset
  | .overrun _ => .receiver
  | .mgmtReady => .receiver

/-- The kind of ROUTE_COMMIT, whose reply comes at a cycle start (R87). -/
def kindRouteCommit : Byte := 0x23

/-- The reply of a commit has been placed in the frame in progress (R87). -/
def State.commitReplied (s : State) : Bool :=
  (s.replies.drop (s.replies.length - s.flags.newReplies)).any fun r => decide (r.kind = kindRouteCommit)

/-- Events of a block that are raised now depend on the step of a reply of the frame: on that of a message
taken in it, whose command raises them or stands before them; and a teardown's on that of a commit, for the
teardown then changes the tables that the commit has counted (R87, R90). The reply of a commit ties nothing
else. (DESIGN CHOICE, unsafe: notes/assumptions/27.md). -/
def State.binds (s : State) (b : EventBlock) : Bool :=
  (match s.flags.taken with
    | none => false
    | some k => decide (k ≠ kindRouteCommit)) ||
  (decide (b = .positions) && s.commitReplied)

/-- Where an event stands that block `b` raises now, behind an event of block `w` if it has such a cause. -/
def State.runOf (s : State) (b : EventBlock) (w : Option EventBlock) : EventRun :=
  { block := b, behind := w, tied := s.binds b }

/-! ## Events and replies (R164) -/

/-- An event is appended at the tail of the event queue, in the run of block `b`, behind the event of its
cause in the run of block `w` if there is one. With 64 events in the queue it is discarded and counted as
lost (R164). The frame remembers it, for the order of the frame's events decides which one is lost (R170). -/
def State.raiseIn (s : State) (b : EventBlock) (w : Option EventBlock) (e : Event) : State :=
  if s.events.length < Config.eventLimit then
    { s with
      events := s.events ++ [e], flags := { s.flags with runs := s.flags.runs ++ [s.runOf b w] } }
  else
    { s with
      eventsLost := countUp s.eventsLost
      flags := { s.flags with lost := s.flags.lost ++ [(s.runOf b w, e)] } }

/-- An event raised in the run of its own block. -/
def State.raise (s : State) (e : Event) : State := s.raiseIn e.block none e

/-- Events raised in order, in the run of block `b`, behind those of their cause in the run of `w`. -/
def State.raiseAllIn (s : State) (b : EventBlock) (w : Option EventBlock) (es : List Event) : State :=
  es.foldl (fun s e => s.raiseIn b w e) s

/-- Events raised in order, each in the run of its own block. -/
def State.raiseAll (s : State) (es : List Event) : State := es.foldl State.raise s

/-- When the reply of a DEV_RESET is gone from the buffer, the reset follows in the next frame
(R167). A unit held for a reset places no further reply, so its reply is the last of the buffer. -/
def State.noteReplyGone (s : State) : State :=
  if s.cmdUnit = .heldReset ∧ s.replies = [] then { s with cmdUnit := .heldResetReplyGone } else s

/-- The command unit takes a message of a kind in the frame in progress (R162). -/
def State.busy (s : State) (kind : Byte) : State := { s with flags := { s.flags with taken := some kind } }

/-- The command unit places a reply at the tail of the reply buffer. While the T-link is not UP the
reply is discarded in the step that places it (R164). -/
def State.placeReply (s : State) (r : Reply) : State :=
  if s.tlink.state = .up then
    { s with
      replies := s.replies ++ [r]
      flags := { s.flags with newReplies := s.flags.newReplies + 1 } }
  else s.noteReplyGone

/-- The reply buffer is emptied. A reply in transmission ends at once and 16 GAP symbols are owed
(R165). -/
def State.flushReplies (s : State) : State :=
  let cut : Bool := match s.arbiter.tx with
    | some t => t.isReply
    | none => false
  let s1 : State :=
    { s with
      replies := []
      flags := { s.flags with newReplies := 0 }
      arbiter := if cut then { tx := none, owed := 16 } else s.arbiter }
  s1.noteReplyGone

/-! ## Tap blocks (R25, R27, R29) -/

/-- A block with its 64 coefficients set to 0 (R24). -/
def TapBlock.zeroed (b : TapBlock) : TapBlock :=
  { b with coefs := List.replicate Config.blockTaps 0 }

/-- `k` blocks leave the head of the free list, in order, and go to the far end of p's list, attached
with zero coefficients or reserved (R27, R29). -/
def State.drawBlocks (s : State) (p : Position) (k : Nat) (attach : Bool) : State :=
  let drawn : List TapElem := (s.freeTaps.take k).map fun b =>
    { block := if attach then b.zeroed else b, attached := attach }
  { (s.modPosn p fun x => { x with taps := { x.taps with elems := x.taps.elems ++ drawn } }) with
    freeTaps := s.freeTaps.drop k }

/-- Blocks are appended at the tail of the free list, in the order given. The coefficients they held
are gone (R8, R31, R33). (DESIGN CHOICE, unsafe: notes/assumptions/24.md). -/
def State.returnBlocks (s : State) (l : List TapElem) : State :=
  { s with freeTaps := s.freeTaps ++ l.map fun e => e.block.zeroed }

/-! ## Clips (R112, R113) -/

/-- One use of a clip is released, with the event of a RETIRING clip that reaches 0: CLIP_FREED, in the clip
store's run (R125), behind the event of its own cause, which the block `w` has raised in the same step if it
has raised one (R114). (DESIGN CHOICE, unsafe: notes/assumptions/41.md). -/
def State.releaseUse (s : State) (w : Option EventBlock) (c : ClipId) : State :=
  let r := s.store.releaseUse c
  { s with store := r.1 }.raiseAllIn .clips w r.2

/-- The entry `e` leaves a player's queue with its event, if its notify flag is on, and its clip's use is
released (R120, R122, R124). -/
def State.leaveQueue (s : State) (e : PromptEntry) (report : Event) : State :=
  if e.notify then (s.raise report).releaseUse (some .players) e.clip else s.releaseUse none e.clip

/-- A hold source lets go of its clip, if it names one. -/
def State.releaseSource (s : State) (src : HoldSource) : State :=
  match src with
  | .prog _ => s
  | .clip c => s.releaseUse none c

/-- A LOADING clip is aborted: its extent is released, its record becomes EMPTY and CLIP_ABORTED is
raised (R112). With no clip LOADING nothing happens. -/
def State.abortLoading (s : State) (cause : AbortCause) : State :=
  match s.store.loadingClip with
  | none => s
  | some c =>
    { s with store := s.store.emptyClip c }.raise (.clipAborted c (s.store.clip c).fill cause)

/-! ## RESET_N (R155) -/

/-- While RESET_N is held low the part takes nothing and does nothing: the state stands as it is until
the release, which is PIN_RESET (R155, DESIGN CHOICE, safe: notes/assumptions/19.md). -/
def State.whenRunning (s : State) (f : State → State) : Host.Outcome State Fault Refusal :=
  if s.resetLow then .next s else .next (f s)

/-! ## Answers of commands (R163) -/

/-- What a command leaves: the state, and the reply it makes at once (ROUTE_COMMIT makes none). -/
structure Answer where
  state : State
  reply : Option (ReplyCode × List Word)

/-- A taken command. -/
def taken (s : State) (code : ReplyCode) (results : List Word) : Answer :=
  { state := s, reply := some (code, results) }

/-- A refused command changes nothing; its reply carries word 0 alone (R163, R169). -/
def refused (s : State) (code : ReplyCode) : Answer := { state := s, reply := some (code, []) }

/-- The two refusals that carry result words (R169). -/
def refusedWith (s : State) (code : ReplyCode) (results : List Word) : Answer :=
  { state := s, reply := some (code, results) }

/-- The position check of R13: a position word above 31 is refused with REFUSED_RANGE. -/
def withPosition (w : Word) (s : State) (f : Position → Answer) : Answer :=
  match posOf w with
  | none => refused s .refusedRange
  | some p => f p

/-- The clip check: an identifier above 63 is refused with REFUSED_RANGE. -/
def withClip (w : Word) (s : State) (f : ClipId → Answer) : Answer :=
  match clipOf w with
  | none => refused s .refusedRange
  | some c => f c

end Sys2Proof.Machine
end

