-- ==== Sys2Proof/Machine/CancellerCommands.lean ====
section
/-!
DEFINITION. EC_CONTROL and EC_REPORT (sections 3.8 and 3.9).
-/

namespace Sys2Proof.Machine

/-- Every attached coefficient set to 0 (R52, R56). -/
def zeroTaps (l : List TapElem) : List TapElem :=
  l.map fun e => if e.attached then { e with block := e.block.zeroed } else e

/-- EC_CONTROL RESET on a canceller that is not OFF (R56). -/
def ecRestart (x : PosState) : PosState :=
  { x with
    taps := { x.taps with elems := zeroTaps x.taps.elems }
    ec := { x.ec with
      state := .converging, hangover := 0, sumD := 0, sumE := 0, dtFrames := 0
      convCount := 0, divCount := 0, resetCount := 0 } }

/-- The results of EC_CONTROL: the action with the canceller state, and the freeze set, both after
the command (R55). -/
def ecControlWords (action : Nat) (c : Canceller) : List Word :=
  [packBytes action (codeOfEc c.state), numWord c.freeze.bits]

/-- The answer of a taken EC_CONTROL. -/
def ecControlTaken (action : Nat) (p : Position) (f : PosState → PosState) (s : State) : Answer :=
  let s' := s.modPosn p f
  taken s' .done (ecControlWords action (s'.posn p).ec)

def cmdEcControl (body : List Word) (s : State) : Answer :=
  match body with
  | [wp, wa] =>
    withPosition wp s fun p =>
      if 2 < wa.toNat then refused s .refusedRange
      else if (s.posn p).record.stored = .closed then refused s .refusedState
      else if wa = 0 then
        ecControlTaken 0 p (fun x => { x with ec := { x.ec with freeze := { x.ec.freeze with mgmt := true } } }) s
      else if wa = 1 then
        ecControlTaken 1 p (fun x => { x with ec := { x.ec with freeze := { x.ec.freeze with mgmt := false } } }) s
      else if (s.posn p).ec.state = .off then refused s .refusedState
      else ecControlTaken 2 p ecRestart s
  | _ => refused s .refusedLength

/-- The result words of EC_REPORT (R60, section 12.5). The unread byte is 1 for set and 0 for clear
(DESIGN CHOICE, unsafe: notes/assumptions/39.md). -/
def ecReportWords (c : Canceller) : List Word :=
  let r := c.report
  [packBytes (codeOfEc r.state) r.freeze.bits, packBytes r.band r.dtFrames,
   packBytes r.resetCount (bit c.unread)] ++
  twoWords r.returnEnergy ++ twoWords r.residualEnergy ++
  [(match r.peakTap with | none => 0xFFFF | some k => numWord k), r.peakCoef]

def cmdEcReport (body : List Word) (s : State) : Answer :=
  match body with
  | [wp] =>
    withPosition wp s fun p =>
      taken (s.modEc p fun c => { c with unread := false }) .done (ecReportWords (s.posn p).ec)
  | _ => refused s .refusedLength

end Sys2Proof.Machine
end

