-- ==== Sys2Proof/Machine/ClipCommands.lean ====
section
/-!
DEFINITION. The clip commands (sections 7.2 and 7.3).
-/

namespace Sys2Proof.Machine

def cmdClipBegin (body : List Word) (s : State) : Answer :=
  match body with
  | [wc, whi, wlo] =>
    withClip wc s fun c =>
      let n := ofTwoWords whi wlo
      if (s.store.clip c).state ≠ .empty then refused s .refusedState
      else if s.store.loadingClip.isSome then refused s .refusedBusy
      else if n = 0 ∨ Config.clipWords < n then refused s .refusedRange
      else match allocate n s.store.free with
        | none =>
          refusedWith s .refusedRoom
            (twoWords (largestExtent s.store.free) ++ twoWords (freeWords s.store.clips))
        | some (a, rest) =>
          let st := s.store.setClip c { state := .loading, start := a, length := n, fill := 0, uses := 0 }
          taken { s with store := { st with free := rest } } .done
            ([numWord c.val] ++ twoWords a ++ twoWords n ++ twoWords (largestExtent rest))
  | _ => refused s .refusedLength

def cmdClipData (body : List Word) (s : State) : Answer :=
  match body with
  | wc :: w :: ws =>
    if 15 < (w :: ws).length then refused s .refusedLength
    else
      withClip wc s fun c =>
        let r := s.store.clip c
        let k := (w :: ws).length
        if r.state ≠ .loading then refused s .refusedState
        else if r.length - r.fill < k then refused s .refusedRange
        else
          let r' : Clip :=
            { r with fill := r.fill + k, state := if r.fill + k = r.length then .ready else .loading }
          let st := s.store.setClip c r'
          taken { s with store := { st with mem := memWriteAll st.mem (r.start + r.fill) (w :: ws) } } .done
            (packBytes c.val (codeOfClip r'.state) :: twoWords r'.fill)
  | _ => refused s .refusedLength

def cmdClipCancel (body : List Word) (s : State) : Answer :=
  match body with
  | [wc] =>
    withClip wc s fun c =>
      if (s.store.clip c).state ≠ .loading then refused s .refusedState
      else
        taken { s with store := s.store.emptyClip c } .done
          (numWord c.val :: twoWords (s.store.clip c).fill)
  | _ => refused s .refusedLength

def cmdClipDelete (body : List Word) (s : State) : Answer :=
  match body with
  | [wc] =>
    withClip wc s fun c =>
      let r := s.store.clip c
      match r.state with
      | .empty => refused s .refusedState
      | .loading => refused s .refusedState
      | .retiring => taken s .done [packBytes (codeOfClip .retiring) r.uses]
      | .ready =>
        if r.uses = 0 then
          taken { s with store := s.store.emptyClip c } .done [packBytes (codeOfClip .empty) 0]
        else
          taken { s with store := s.store.setClip c { r with state := .retiring } } .done
            [packBytes (codeOfClip .retiring) r.uses]
  | _ => refused s .refusedLength

def cmdClipQuery (body : List Word) (s : State) : Answer :=
  match body with
  | [wc] =>
    withClip wc s fun c =>
      let r := s.store.clip c
      taken s .done
        ([packBytes (codeOfClip r.state) r.uses] ++ twoWords r.start ++ twoWords r.length ++
          twoWords r.fill ++ twoWords (freeWords s.store.clips) ++ twoWords (largestExtent s.store.free))
  | _ => refused s .refusedLength

end Sys2Proof.Machine
end

