-- ==== Sys2Proof/Machine/DeviceCommands.lean ====
section
/-!
DEFINITION. KEYMAP_SET, LINK_ARM, RESUME, DEV_QUERY and DEV_RESET (sections 9.5, 10.4, 11.2, 11.5).
-/

namespace Sys2Proof.Machine

/-- KEYMAP_SET (R143): the entry is replaced whole; no value is clamped. -/
def cmdKeymapSet (body : List Word) (s : State) : Answer :=
  match body with
  | [wk, wr, wa, wd] =>
    match keyOf wk, reportOf wr, actionOf wa, debounceOf wd with
    | some k, some r, some a, some d =>
      let m := s.keymap.setEntry k { report := r, action := a, debounce := d }
      taken { s with keymap := m } .done
        [mapWord m.mute, mapWord m.hold, mapWord m.volUp, mapWord m.volDown]
    | _, _, _, _ => refused s .refusedRange
  | _ => refused s .refusedLength

/-- LINK_ARM (R154): out of CONFLICT into DRIVING, the count 0. The H-link is driven, and its samples
and status words are taken, from the next frame. -/
def cmdLinkArm (body : List Word) (s : State) : Answer :=
  match body with
  | [] =>
    let s' :=
      if s.hlink.state = .conflict then
        { s with hlink := { state := .driving, foreignCount := 0 }, flags := { s.flags with armed := true } }
      else s
    taken s' .done [packBytes (codeOfHLink s'.hlink.state) (codeOfTLink s'.tlink.state)]
  | _ => refused s .refusedLength

/-- RESUME (R161): the overrun discard count is reported, then cleared. -/
def cmdResume (body : List Word) (s : State) : Answer :=
  match body with
  | [] =>
    taken { s with receiver := { s.receiver with discards := 0 } } .done [numWord s.receiver.discards]
  | _ => refused s .refusedLength

/-- The result words 1 to 15 of DEV_QUERY (section 12.5). -/
def devQueryWords (s : State) : List Word :=
  [packBytes Config.partId.toNat Config.revision.toNat,
   packBytes (codeOfHLink s.hlink.state * 4 + codeOfTLink s.tlink.state) s.events.length,
   numWord s.freeTaps.length] ++
  twoWords (freeWords s.store.clips) ++ twoWords (largestExtent s.store.free) ++
  [numWord s.eventsLost, numWord s.receiver.checkFailures, numWord s.receiver.framingErrors,
   numWord s.receiver.discards, packBytes 32 4, numWord 256,
   packBytes Config.tailLimit Config.blockTaps, packBytes 64 19]

/-- DEV_QUERY (R166): the values are reported, then three counts are cleared. -/
def cmdDevQuery (body : List Word) (s : State) : Answer :=
  match body with
  | [] =>
    taken { s with
      eventsLost := 0, receiver := { s.receiver with checkFailures := 0, framingErrors := 0 } } .done
      (devQueryWords s)
  | _ => refused s .refusedLength

/-- DEV_RESET (R167): the reply DONE is placed and the command unit is held for the reset. -/
def cmdDevReset (body : List Word) (s : State) : Answer :=
  match body with
  | [] => taken { s with cmdUnit := .heldReset } .done []
  | _ => refused s .refusedLength

end Sys2Proof.Machine
end

