-- ==== Sys2Proof/Machine/Earpiece.lean ====
section
/-!
DEFINITION. The earpiece protection: its commands (section 8.5), its work at a turn (R131) and the
chain of one frame (R129 to R133).
-/

namespace Sys2Proof.Machine

/-! ## SHOCK_SET, SHOCK_CLEAR, SHOCK_QUERY -/

/-- A change of the shock stage alone. -/
def State.modShock (s : State) (p : Position) (f : Shock → Shock) : State :=
  s.modPosn p fun x => { x with shock := f x.shock }

/-- The shock parameters stored (R134). In LIMITING and LATCHED the shock gain takes the new limit
gain at once. -/
def Shock.store (k : Shock) (t f g h r : Nat) (m : ShockMode) (c : Nat) : Shock :=
  { k with
    threshold := t, filterK := f, limitGain := g, holdTurns := h, releaseStep := r, mode := m
    ceiling := c
    sg := if k.state = .limiting ∨ k.state = .latched then g else k.sg }

/-- The seven values stored, in body order, and the shock state (section 12.4). -/
def shockSetWords (k : Shock) : List Word :=
  [numWord k.threshold, numWord k.filterK, numWord k.limitGain, numWord k.holdTurns,
   numWord k.releaseStep, numWord (codeOfShockMode k.mode), numWord k.ceiling,
   numWord (codeOfShock k.state)]

def cmdShockSet (body : List Word) (s : State) : Answer :=
  match body with
  | [wp, wt, wk, wg, wh, wr, wm, wc] =>
    withPosition wp s fun p =>
      match shockModeOf wm with
      | none => refused s .refusedRange
      | some m =>
        let t := clampWord 1024 32767 wt
        let f := clampWord 1 16 wk
        let g := clampWord 0 4096 wg
        let h := clampWord 1 255 wh
        let r := clampWord 1 4096 wr
        let c := clampWord 1024 32767 wc
        let s' := s.modShock p fun k => k.store t.1 f.1 g.1 h.1 r.1 m c.1
        taken s' (doneCode (t.2 || f.2 || g.2 || h.2 || r.2 || c.2)) (shockSetWords (s'.posn p).shock)
  | _ => refused s .refusedLength

def cmdShockClear (body : List Word) (s : State) : Answer :=
  match body with
  | [wp] =>
    withPosition wp s fun p =>
      let s' := if (s.posn p).shock.state = .latched then
          s.modShock p fun k => { k with state := .releasing }
        else s
      taken s' .done [numWord (codeOfShock (s'.posn p).shock.state)]
  | _ => refused s .refusedLength

/-- The result words 1 to 9 of SHOCK_QUERY (section 12.5). -/
def shockQueryWords (k : Shock) (volume : Nat) : List Word :=
  [numWord k.threshold, packBytes k.filterK (codeOfShockMode k.mode), numWord k.limitGain,
   packBytes k.holdTurns volume, numWord k.releaseStep, numWord k.ceiling,
   packBytes (codeOfShock k.state) k.overCount, numWord k.sg, numWord k.hold]

def cmdShockQuery (body : List Word) (s : State) : Answer :=
  match body with
  | [wp] =>
    withPosition wp s fun p =>
      taken s .done (shockQueryWords (s.posn p).shock (s.posn p).record.volume)
  | _ => refused s .refusedLength

/-! ## The turn (R131) -/

/-- In LIMITING the hold counter is lowered by 1, and at 0 the stage leaves LIMITING by the mode. -/
def shockTurn (k : Shock) : Shock :=
  match k.state with
  | .limiting =>
    let n := k.hold - 1
    if n = 0 then
      { k with hold := 0, state := match k.mode with | .auto => .releasing | .latched => .latched }
    else { k with hold := n }
  | _ => k

/-- The hold counter of a LIMITING stage reaches 0 at the next turn (R131). -/
def holdExpires (k : Shock) : Bool := decide (k.state = .limiting) && decide (k.hold ≤ 1)

/-! ## The frame (R129 to R133) -/

/-- Volume scaling and the output gate: the sample o (R129). -/
def gatedEar (earMix : Int) (volume wo : Nat) : Int :=
  roundDiv (satSample (roundDiv (earMix * volumeGain volume) 4096) * wo) 32

/-- The over-count after o (R130). -/
def overAfter (k : Shock) (o : Int) : Nat :=
  if k.threshold ≤ o.natAbs then min 16 (k.overCount + 1) else 0

/-- Detection (R130): the stage after it, and whether it entered LIMITING. -/
def shockDetect (k : Shock) (o : Int) : Shock × Bool :=
  let n := overAfter k o
  if k.filterK ≤ n then
    match k.state with
    | .normal => ({ k with state := .limiting, sg := k.limitGain, hold := k.holdTurns, overCount := 0 }, true)
    | .releasing => ({ k with state := .limiting, sg := k.limitGain, hold := k.holdTurns, overCount := 0 }, true)
    | .limiting => ({ k with hold := k.holdTurns, overCount := 0 }, false)
    | .latched => ({ k with overCount := 0 }, false)
  else ({ k with overCount := n }, false)

/-- The release ramp (R132): the stage after it, and whether it ended. -/
def shockRelease (k : Shock) : Shock × Bool :=
  match k.state with
  | .releasing =>
    let g := min 4096 (k.sg + k.releaseStep)
    if g = 4096 then ({ k with sg := 4096, state := .normal }, true) else ({ k with sg := g }, false)
  | _ => (k, false)

/-- The final ear sample (R133). -/
def earSample (k : Shock) (o : Int) : Int :=
  saturate (-(k.ceiling : Int)) k.ceiling (roundDiv (o * k.sg) 4096)

/-- What the chain's frame gives. -/
structure EarFrame where
  shock : Shock
  ear : Int
  cameOn : Bool
  wentOff : Bool

/-- The chain of one frame on the gated sample o. -/
def earFrame (k : Shock) (o : Int) : EarFrame :=
  let d := shockDetect k o
  let r := shockRelease d.1
  { shock := r.1, ear := earSample r.1 o, cameOn := d.2, wentOff := r.2 }

end Sys2Proof.Machine
end

