-- ==== Sys2Proof/Machine/Positions.lean ====
section
/-!
DEFINITION. The position commands of section 1.7 and POS_TAIL of section 2.3: what the command unit
does when it takes each of them. A body of another length answers REFUSED_LENGTH (R13).
-/

namespace Sys2Proof.Machine

/-! ## POS_MAP (R14) -/

/-- Another position that holds the H-slot, if the slot is not none. -/
def hClash (s : State) (p : Position) (k : Option Slot) : Option Position :=
  match k with
  | none => none
  | some j => (List.finRange 32).find? fun q => q ≠ p ∧ (s.posn q).record.hSlot = some j

/-- Another position that holds the T-slot, if the slot is not none. -/
def tClash (s : State) (p : Position) (k : Option Slot) : Option Position :=
  match k with
  | none => none
  | some j => (List.finRange 32).find? fun q => q ≠ p ∧ (s.posn q).record.tSlot = some j

/-- ABSENT as POS_MAP sets it: set for no H-slot or a debouncer that reads absent (R14). -/
def absentFrom (s : State) (k : Option Slot) : Bool :=
  match k with
  | none => true
  | some j => !(s.debouncers[j.val]).presence.level

def cmdPosMap (body : List Word) (s : State) : Answer :=
  match body with
  | [wp, wh, wt] =>
    withPosition wp s fun p =>
      match slotOf wh, slotOf wt with
      | some hs, some ts =>
        if (s.posn p).record.stored ≠ .closed then refused s .refusedState
        else match hClash s p hs, tClash s p ts with
          | some q, _ => refusedWith s .refusedBusy [numWord q.val]
          | none, some q => refusedWith s .refusedBusy [numWord q.val]
          | none, none =>
            taken (s.modRecord p fun r =>
              { r with hSlot := hs, tSlot := ts, mute := { r.mute with absent := absentFrom s hs } })
              .done []
      | _, _ => refused s .refusedRange
  | _ => refused s .refusedLength

/-! ## POS_OPEN (R15, R27) -/

/-- The record of a position that opens (R15). -/
def openRecord (r : Record) : Record :=
  { r with
    stored := .opening, params := .default, holdPtr := 0, holdWish := false, closeReq := false
    keys := [] }

/-- A position that opens (R15). The default parameters hold from the command on, so the frame in progress
reads them too and a canceller that starts in it uses nothing of the call before (R21, R62).
(DEDUCED, unsafe: notes/assumptions/17.md). -/
def openPosn (x : PosState) : PosState :=
  { x with record := openRecord x.record, inForce := { x.inForce with params := .default } }

def cmdPosOpen (body : List Word) (s : State) : Answer :=
  match body with
  | [wp, wn] =>
    withPosition wp s fun p =>
      let r := (s.posn p).record
      if r.stored ≠ .closed ∨ r.hSlot = none ∨ r.tSlot = none then refused s .refusedState
      else
        let n := min Config.tailLimit wn.toNat
        let granted := min n s.freeTaps.length
        taken ((s.drawBlocks p n true).modPosn p openPosn)
          (if granted < n then .doneShort else doneCode (decide (Config.tailLimit < wn.toNat)))
          [numWord granted]
  | _ => refused s .refusedLength

/-! ## POS_CLOSE, POS_HOLD, POS_MUTE (R16 to R18) -/

def cmdPosClose (body : List Word) (s : State) : Answer :=
  match body with
  | [wp] =>
    withPosition wp s fun p =>
      match (s.posn p).record.stored with
      | .closed => refused s .refusedState
      | .closing => taken s .done []
      | .opening => taken (s.modRecord p fun r => { r with closeReq := true }) .done []
      | .active => taken (s.modRecord p fun r => { r with closeReq := true }) .done []
  | _ => refused s .refusedLength

def cmdPosHold (body : List Word) (s : State) : Answer :=
  match body with
  | [wp, wo] =>
    withPosition wp s fun p =>
      match onOffOf wo with
      | none => refused s .refusedRange
      | some on =>
        if (s.posn p).record.stored = .active then
          taken (s.modRecord p fun r => { r with holdWish := on }) .done []
        else refused s .refusedState
  | _ => refused s .refusedLength

def cmdPosMute (body : List Word) (s : State) : Answer :=
  match body with
  | [wp, wo] =>
    withPosition wp s fun p =>
      match onOffOf wo with
      | none => refused s .refusedRange
      | some on =>
        if (s.posn p).record.stored = .closed then refused s .refusedState
        else taken (s.modRecord p fun r => { r with mute := { r.mute with mgmt := on } }) .done []
  | _ => refused s .refusedLength

/-! ## POS_VOLUME (R19) -/

/-- POS_VOLUME once its words have been read: the new index, and whether the value was clamped. -/
def setVolume (p : Position) (index : Nat) (clamped : Bool) (s : State) : Answer :=
  taken (s.modRecord p fun r => { r with volume := index }) (doneCode clamped) [numWord index]

def cmdPosVolume (body : List Word) (s : State) : Answer :=
  match body with
  | [wp, wm, wv] =>
    withPosition wp s fun p =>
      let v := (s.posn p).record.volume
      if wm = 0 then setVolume p (min 15 wv.toNat) (decide (15 < wv.toNat)) s
      else if wm = 1 then setVolume p (min 15 (v + 1)) false s
      else if wm = 2 then setVolume p (v - 1) false s
      else refused s .refusedRange
  | _ => refused s .refusedLength

/-! ## POS_SET (R20, R21) -/

/-- A numeric parameter: clamped to its range, stored, and answered with the value stored. -/
def setNumeric (p : Position) (lo hi : Nat) (w : Word) (put : Params → Nat → Params) (s : State) : Answer :=
  let v := clampWord lo hi w
  taken (s.modRecord p fun r => { r with params := put r.params v.1 }) (doneCode v.2) [numWord v.1]

/-- A new hold source (R21, note 2). One equal to the present source changes nothing. Another clip
must be READY; it gains a use, the old clip loses its use, and the hold pointer is set to 0. The frame in
progress still reads the old source, at the pointer that stood (R96).
(DEDUCED, unsafe: notes/assumptions/18.md). -/
def setHoldSource (p : Position) (src : HoldSource) (s : State) : Answer :=
  let old := (s.posn p).record.params.holdSource
  let put := fun (s : State) => s.modPosn p fun x =>
    { x with
      record := { x.record with params := { x.record.params with holdSource := src }, holdPtr := 0 }
      inForce := { x.inForce with readPtr := some (x.inForce.readPtr.getD x.record.holdPtr) } }
  let results := [numWord (codeOfHoldSource src)]
  if src = old then taken s .done results
  else match src with
    | .prog _ => taken ((put s).releaseSource old) .done results
    | .clip c =>
      if (s.store.clip c).state ≠ .ready then refused s .refusedState
      else taken ((put { s with store := s.store.takeUse c }).releaseSource old) .done results

/-- A new suppression profile (R21, note 3). The suppressor state is kept, the floor within 1 to
32767. -/
def setProfile (p : Position) (k : ProfileId) (s : State) : Answer :=
  taken (s.modPosn p fun x =>
    { x with
      record := { x.record with params := { x.record.params with nsProfile := k } }
      ns := { x.ns with floor := clampNat 1 32767 x.ns.floor } }) .done [numWord k.val]

/-- A new capture mode (R61). A change of the stored mode clears the unread flag. -/
def setCapture (p : Position) (m : CaptureMode) (s : State) : Answer :=
  taken (s.modPosn p fun x =>
    { x with
      record := { x.record with params := { x.record.params with capture := m } }
      ec := if x.record.params.capture = m then x.ec else { x.ec with unread := false } })
    .done [numWord (codeOfCapture m)]

/-- The range check of an identifier parameter (R13, R21 note 1): the hold source, the profile and
the capture mode are identifiers and are refused, never clamped. -/
def paramInRange (param value : Word) : Bool :=
  if param.toNat = 1 then (holdSourceOf value).isSome
  else if param.toNat = 3 then (profileOf value).isSome
  else if param.toNat = 9 then (captureOf value).isSome
  else decide (param.toNat < 10)

def cmdPosSet (body : List Word) (s : State) : Answer :=
  match body with
  | [wp, wi, wv] =>
    withPosition wp s fun p =>
      if !paramInRange wi wv then refused s .refusedRange
      else if (s.posn p).record.stored = .closed then refused s .refusedState
      else match wi.toNat with
        | 0 => setNumeric p 0 2048 wv (fun q v => { q with sidetone := v }) s
        | 1 => match holdSourceOf wv with
          | none => refused s .refusedRange
          | some src => setHoldSource p src s
        | 2 => setNumeric p 0 8192 wv (fun q v => { q with holdGain := v }) s
        | 3 => match profileOf wv with
          | none => refused s .refusedRange
          | some k => setProfile p k s
        | 4 => setNumeric p 0 255 wv (fun q v => { q with stepM := v }) s
        | 5 => setNumeric p 1 65535 wv (fun q v => { q with regR := v }) s
        | 6 => setNumeric p 0 4096 wv (fun q v => { q with dtRatio := v }) s
        | 7 => setNumeric p 0 4095 wv (fun q v => { q with hangoverFrames := v }) s
        | 8 => setNumeric p 0 15 wv (fun q v => { q with convBand := v }) s
        | 9 => match captureOf wv with
          | none => refused s .refusedRange
          | some m => setCapture p m s
        | _ => refused s .refusedRange
  | _ => refused s .refusedLength

/-! ## POS_QUERY (R22, section 12.5) -/

/-- The result words 1 to 14 of POS_QUERY. -/
def posQueryWords (x : PosState) : List Word :=
  let r := x.record
  let q := r.params
  [packBytes (codeOfCall (callState r)) r.volume,
   packBytes (codeOfSlot r.hSlot) (codeOfSlot r.tSlot),
   packBytes r.wo r.h,
   packBytes r.wm (bit r.outTarget + bit r.holdTarget * 2 + bit r.muteTarget * 4),
   BitVec.ofNat 16 (bit r.holdWish + bit r.closeReq * 2 + r.mute.bits * 4 + min r.keys.length 7 * 32),
   packBytes (attachedCount x.taps.elems) (reservedCount x.taps.elems),
   numWord q.sidetone, numWord (codeOfHoldSource q.holdSource), numWord q.holdGain,
   packBytes q.nsProfile.val q.convBand, packBytes q.stepM (codeOfCapture q.capture),
   numWord q.regR, numWord q.dtRatio, numWord q.hangoverFrames]

def cmdPosQuery (body : List Word) (s : State) : Answer :=
  match body with
  | [wp] => withPosition wp s fun p => taken s .done (posQueryWords (s.posn p))
  | _ => refused s .refusedLength

/-! ## POS_TAIL (R28 to R30) -/

/-- The pending record of a tail change. -/
def State.setTailChange (s : State) (p : Position) (c : Option TailChange) : State :=
  s.modPosn p fun x => { x with taps := { x.taps with change := c } }

def cmdPosTail (body : List Word) (s : State) : Answer :=
  match body with
  | [wp, wn] =>
    withPosition wp s fun p =>
      let x := s.posn p
      match x.record.stored with
      | .closed => refused s .refusedState
      | .closing => refused s .refusedState
      | _ =>
        if x.taps.change ≠ none then refused s .refusedBusy
        else
          let n := min Config.tailLimit wn.toNat
          let len := x.taps.elems.length
          let code := doneCode (decide (Config.tailLimit < wn.toNat))
          let free := s.freeTaps.length
          if n = len then taken s code [numWord 0, numWord len, numWord free]
          else if len < n then
            let k := min (n - len) free
            if k = 0 then taken s .doneShort [numWord 0, numWord len, numWord free]
            else
              taken ((s.drawBlocks p k false).setTailChange p (some .grow))
                (if k < n - len then .doneShort else code)
                [numWord k, numWord (len + k), numWord (free - k)]
          else
            taken (s.setTailChange p (some (.shrink n))) code [numWord 0, numWord n, numWord free]
  | _ => refused s .refusedLength

end Sys2Proof.Machine
end

