-- ==== Sys2Proof/Machine/ProfileCommands.lean ====
section
/-!
DEFINITION. PROFILE_WRITE and PROFILE_READ (section 4.5).
-/

namespace Sys2Proof.Machine

/-- A numeric word lies outside its range. -/
def outside (lo hi : Nat) (w : Word) : Bool := (clampWord lo hi w).2

/-- The profile that PROFILE_WRITE stores: the words in body order, each clamped (R63, R72). -/
def profileOfWords (a r i f u d c0 c1 c2 c3 c4 c5 c6 c7 : Word) (bypass : Bool) : Profile :=
  { attack := clampNat 0 7 a.toNat, release := clampNat 0 15 r.toNat, rise := clampNat 0 15 i.toNat
    initialFloor := clampNat 1 32767 f.toNat, upStep := clampNat 1 4096 u.toNat
    downStep := clampNat 1 4096 d.toNat
    curve := #v[clampNat 0 4096 c0.toNat, clampNat 0 4096 c1.toNat, clampNat 0 4096 c2.toNat,
      clampNat 0 4096 c3.toNat, clampNat 0 4096 c4.toNat, clampNat 0 4096 c5.toNat,
      clampNat 0 4096 c6.toNat, clampNat 0 4096 c7.toNat]
    bypass := bypass }

/-- PROFILE_WRITE (R72). The reply tells whether an earlier pending copy was replaced. A copy that a cycle
start of the same frame ended counts as well, for the reply is the same in both orders of the two (R74).
(DEDUCED, unsafe: notes/assumptions/35.md). Its byte is 1 for replaced and 0 for not (DESIGN CHOICE, unsafe:
notes/assumptions/38.md). -/
def cmdProfileWrite (body : List Word) (s : State) : Answer :=
  match body with
  | [wk, a, r, i, f, u, d, c0, c1, c2, c3, c4, c5, c6, c7, wb] =>
    match profileOf wk, onOffOf wb with
    | some k, some bypass =>
      let clamped := outside 0 7 a || outside 0 15 r || outside 0 15 i || outside 1 32767 f ||
        outside 1 4096 u || outside 1 4096 d || ([c0, c1, c2, c3, c4, c5, c6, c7].any (outside 0 4096))
      let replaced := (s.pendingProfiles[k.val]).isSome || s.flags.copiesApplied[k.val]
      taken { s with pendingProfiles :=
          s.pendingProfiles.set k.val (some (profileOfWords a r i f u d c0 c1 c2 c3 c4 c5 c6 c7 bypass)) }
        (doneCode clamped) [packBytes k.val (bit replaced)]
    | _, _ => refused s .refusedRange
  | _ => refused s .refusedLength

/-- The result words 1 to 13 of PROFILE_READ (section 12.5). -/
def profileWords (k : ProfileId) (pendingCopy exists_ : Bool) (q : Profile) : List Word :=
  [packBytes k.val (bit pendingCopy * 2 + bit exists_),
   BitVec.ofNat 16 (min q.attack 7 + min q.release 15 * 16 + min q.rise 15 * 256 + bit q.bypass * 32768),
   numWord q.initialFloor, numWord q.upStep, numWord q.downStep] ++
  (List.finRange 8).map fun i => numWord (q.curve[i.val])

def cmdProfileRead (body : List Word) (s : State) : Answer :=
  match body with
  | [wk, wsel] =>
    match profileOf wk with
    | none => refused s .refusedRange
    | some k =>
      let pend := s.pendingProfiles[k.val]
      if wsel = 0 then taken s .done (profileWords k false pend.isSome s.profiles[k.val])
      else if wsel = 1 then
        match pend with
        | none => refused s .refusedState
        | some q => taken s .done (profileWords k true true q)
      else refused s .refusedRange
  | _ => refused s .refusedLength

end Sys2Proof.Machine
end

