-- ==== Sys2Proof/Machine/ProgrammeCommands.lean ====
section
/-!
DEFINITION. PROG_SET, FALLBACK_SET and PROG_QUERY (section 6.4).
-/

namespace Sys2Proof.Machine

/-- The state of a programme in a field: 1 SOUNDING, 0 SILENT, as PROG_QUERY's bit 0 has it
(DEDUCED, unsafe: notes/assumptions/12.md). -/
def codeOfProgramme (g : Programme) : Nat := bit g.sounding

def cmdProgSet (body : List Word) (s : State) : Answer :=
  match body with
  | [wk, wt, wsil] =>
    match progOf wk with
    | none => refused s .refusedRange
    | some k =>
      let t := clampWord 0 32767 wt
      let n := clampWord 1 255 wsil
      let g : Programme := { s.progs[k.val] with threshold := t.1, silenceCycles := n.1 }
      taken { s with progs := s.progs.set k.val g } (doneCode (t.2 || n.2))
        [packBytes k.val (codeOfProgramme g), numWord t.1, packBytes n.1 g.silentCount]
  | _ => refused s .refusedLength

/-- The use of the old fallback clip released, if there was one (R104). -/
def State.releaseFallback (s : State) (old : Option ClipId) : State :=
  match old with
  | none => s
  | some c => s.releaseUse none c

def cmdFallbackSet (body : List Word) (s : State) : Answer :=
  match body with
  | [wc] =>
    match clipOrNoneOf wc with
    | none => refused s .refusedRange
    | some new =>
      let results := [numWord (codeOfFallback s.fallback), numWord (codeOfFallback new)]
      if new = s.fallback then taken s .done results
      else match new with
        | none => taken ({ s with fallback := none }.releaseFallback s.fallback) .done results
        | some c =>
          if (s.store.clip c).state ≠ .ready then refused s .refusedState
          else
            taken ({ s with fallback := some c, store := s.store.takeUse c }.releaseFallback s.fallback)
              .done results
  | _ => refused s .refusedLength

/-- The three words of one programme (section 12.5). -/
def programmeWords (g : Programme) : List Word :=
  [packBytes g.silentCount (bit g.loud * 2 + bit g.sounding), numWord g.threshold, numWord g.silenceCycles]

def cmdProgQuery (body : List Word) (s : State) : Answer :=
  match body with
  | [] => taken s .done (s.progs.toList.flatMap programmeWords ++ [numWord (codeOfFallback s.fallback)])
  | _ => refused s .refusedLength

end Sys2Proof.Machine
end

