-- ==== Sys2Proof/Machine/Prompts.lean ====
section
/-!
DEFINITION. The prompt players: queueing and stopping prompts (sections 7.5, 7.7), the player's work
in one frame (7.6), and PROMPT_QUERY.
-/

namespace Sys2Proof.Machine

/-! ## Changes of the head -/

/-- An entry becomes the head (R117, R119, R122). `start` is the start pending flag it gets. -/
def Player.withHead (pl : Player) (e : PromptEntry) (rest : List PromptEntry) (start : Bool) : Player :=
  { pl with
    state := .playing, queue := e :: rest, readPtr := 0, remaining := e.repeats, passes := 0
    duckLevel := e.duck, startPending := start }

/-- The queue is empty: the player is IDLE and keeps the duck level of its last head (R117, R122). Start pending
is cleared, also where PROMPT_STOP dropped the head before its first word (R124).
(DESIGN CHOICE, unsafe: notes/assumptions/43.md). -/
def Player.toIdle (pl : Player) : Player :=
  { pl with
    state := .idle, queue := [], readPtr := 0, remaining := 0, passes := 0, startPending := false }

/-- The next entry, if any, becomes the head; else the player becomes IDLE. -/
def Player.succeed (pl : Player) (rest : List PromptEntry) (start : Bool) : Player :=
  match rest with
  | [] => pl.toIdle
  | e :: es => pl.withHead e es start

/-- A change of the player alone. -/
def State.modPlayer (s : State) (p : Position) (f : Player → Player) : State :=
  s.modPosn p fun x => { x with player := f x.player }

/-- A dropped entry: PROMPT_DROPPED if asked for, and the release of its clip's use (R114, R120, R124). -/
def State.dropEntry (s : State) (p : Position) (e : PromptEntry) (passes : Nat) (cause : DropCause) : State :=
  s.leaveQueue e (.promptDropped p e.clip passes cause)

/-- Entries dropped from head to tail; the head alone has completed passes (R124). Each drop's CLIP_FREED
is raised right after its own PROMPT_DROPPED, before the next entry's (R124, R114).
(DEDUCED, unsafe: notes/assumptions/36.md). -/
def State.dropEntries (s : State) (p : Position) : List PromptEntry → Nat → DropCause → State
  | [], _, _ => s
  | e :: es, passes, cause => (s.dropEntry p e passes cause).dropEntries p es 0 cause

/-! ## PROMPT_PLAY (R119, R120) -/

/-- The results: the position, the place with the queue length (section 12.4). -/
def promptPlayWords (p : Position) (place len : Nat) : List Word := [numWord p.val, packBytes place len]

/-- Normal play: the entry joins at the tail, and becomes the head of an IDLE player (R119). -/
def playNormal (p : Position) (e : PromptEntry) (code : ReplyCode) (s : State) : Answer :=
  let pl := (s.posn p).player
  let s1 := { s with store := s.store.takeUse e.clip }
  let n := pl.queue.length
  taken
    (s1.modPlayer p fun pl =>
      match pl.state with
      | .idle => pl.withHead e [] true
      | .playing => { pl with queue := pl.queue ++ [e] }
      | .finishing => { pl with queue := pl.queue ++ [e] })
    code (promptPlayWords p (if pl.state = .idle then 0 else n) (if pl.state = .idle then 1 else n + 1))

/-- The tail of a full queue is dropped by an urgent play (R120 step 1). -/
def State.dropFullTail (s : State) (p : Position) : State :=
  let q := (s.posn p).player.queue
  if Config.promptLimit ≤ q.length then
    match q.getLast? with
    | none => s
    | some t =>
      (s.modPlayer p fun pl => { pl with queue := pl.queue.dropLast }).dropEntry p t 0 .urgent
  else s

/-- The head is dropped by an urgent play (R120 step 2). -/
def State.dropHead (s : State) (p : Position) (cause : DropCause) : State :=
  match (s.posn p).player.queue with
  | [] => s
  | e :: es =>
    (s.modPlayer p fun pl => { pl with queue := es }).dropEntry p e (s.posn p).player.passes cause

/-- Urgent play: the entry displaces the prompt in play (R120). The tail's CLIP_FREED is raised right after
the tail's PROMPT_DROPPED, before the head's (R120, R114). (DEDUCED, unsafe: notes/assumptions/36.md). -/
def playUrgent (p : Position) (e : PromptEntry) (code : ReplyCode) (s : State) : Answer :=
  let s1 := { s with store := s.store.takeUse e.clip }
  let s2 := (s1.dropFullTail p).dropHead p .urgent
  let rest := (s2.posn p).player.queue
  taken (s2.modPlayer p fun pl => pl.withHead e rest true) code (promptPlayWords p 0 (rest.length + 1))

def cmdPromptPlay (body : List Word) (s : State) : Answer :=
  match body with
  | [wp, wc, wr, wg, wd, wn, wu] =>
    match posOf wp, clipOf wc, onOffOf wn, onOffOf wu with
    | some p, some c, some notify, some urgent =>
      let x := s.posn p
      if x.record.stored = .closed then refused s .refusedState
      else if (s.store.clip c).state ≠ .ready then refused s .refusedState
      else if Config.promptLimit ≤ x.player.queue.length ∧ urgent = false then refused s .refusedRoom
      else
        let r := clampWord 0 255 wr
        let g := clampWord 0 8192 wg
        let d := clampWord 0 4096 wd
        let e : PromptEntry := { clip := c, repeats := r.1, gain := g.1, duck := d.1, notify := notify }
        let code := doneCode (r.2 || g.2 || d.2)
        if urgent then playUrgent p e code s else playNormal p e code s
    | _, _, _, _ => refused s .refusedRange
  | _ => refused s .refusedLength

/-! ## PROMPT_STOP (R124) -/

/-- The results: entries dropped, queue length after. -/
def promptStopWords (dropped len : Nat) : List Word := [packBytes dropped len]

def stopNow (p : Position) (s : State) : Answer :=
  match (s.posn p).player.state with
  | .idle => taken s .done (promptStopWords 0 0)
  | _ =>
    let s1 := s.dropHead p .stopNow
    let rest := (s1.posn p).player.queue
    taken (s1.modPlayer p fun pl => pl.succeed rest true) .done (promptStopWords 1 rest.length)

def stopAfterPass (p : Position) (s : State) : Answer :=
  let pl := (s.posn p).player
  match pl.state with
  | .playing =>
    taken (s.modPlayer p fun pl => { pl with state := .finishing }) .done
      (promptStopWords 0 pl.queue.length)
  | _ => taken s .done (promptStopWords 0 pl.queue.length)

def stopFlush (p : Position) (s : State) : Answer :=
  let pl := (s.posn p).player
  match pl.state with
  | .idle => taken s .done (promptStopWords 0 0)
  | _ =>
    taken (((s.modPlayer p Player.toIdle).dropEntries p pl.queue pl.passes .flush)) .done
      (promptStopWords pl.queue.length 0)

def cmdPromptStop (body : List Word) (s : State) : Answer :=
  match body with
  | [wp, wm] =>
    withPosition wp s fun p =>
      if 2 < wm.toNat then refused s .refusedRange
      else if (s.posn p).record.stored = .closed then refused s .refusedState
      else if wm = 0 then stopNow p s
      else if wm = 1 then stopAfterPass p s
      else stopFlush p s
  | _ => refused s .refusedLength

/-! ## PROMPT_QUERY (R126, section 12.5) -/

/-- The three words of one entry. -/
def entryWords (e : PromptEntry) : List Word :=
  [BitVec.ofNat 16 (e.clip.val + bit e.notify * 128 + min e.repeats 255 * 256), numWord e.gain,
   numWord e.duck]

def promptQueryWords (pl : Player) : List Word :=
  [BitVec.ofNat 16
    (bit (pl.state = .finishing) * 32768 + bit pl.startPending * 16384 + min pl.wd 63 * 256 +
      min pl.remaining 255),
   BitVec.ofNat 16 (pl.readPtr % 65536),
   BitVec.ofNat 16 (min (pl.readPtr / 65536) 7 * 8192 + min pl.duckLevel 8191)] ++
  pl.queue.flatMap entryWords

def cmdPromptQuery (body : List Word) (s : State) : Answer :=
  match body with
  | [wp] => withPosition wp s fun p => taken s .done (promptQueryWords (s.posn p).player)
  | _ => refused s .refusedLength

/-! ## The player in one frame (R121 to R123) -/

/-- What a player's frame gives: the player after it, its output, and the entry that completed with
the passes it had played. -/
structure PlayerFrame where
  player : Player
  output : Int
  completed : Option (PromptEntry × Nat)

/-- The player is about to play a word of its head: not IDLE and no start pending (R121). -/
def Player.sounding (pl : Player) : Bool := pl.state ≠ .idle && !pl.startPending

/-- The read of this frame is the last of the head's clip (R121). -/
def Player.passEnds (pl : Player) (st : ClipStore) : Bool :=
  match pl.queue with
  | [] => false
  | e :: _ => pl.sounding && decide ((st.clip e.clip).length ≤ pl.readPtr + 1)

/-- A pass of the head is complete (R122). -/
def passComplete (pl : Player) (e : PromptEntry) (rest : List PromptEntry) : Player × Option (PromptEntry × Nat) :=
  let n := min 255 (pl.passes + 1)
  if pl.state = .playing ∧ e.repeats = 0 then ({ pl with readPtr := 0, passes := n }, none)
  else if pl.state = .playing ∧ 2 ≤ pl.remaining then
    ({ pl with readPtr := 0, passes := n, remaining := pl.remaining - 1 }, none)
  else (pl.succeed rest false, some (e, n))

/-- The prompt term of the ear mix, and the player after it (R121, R122). -/
def playerOutput (pl : Player) (st : ClipStore) : PlayerFrame :=
  match pl.queue with
  | [] => { player := pl, output := 0, completed := none }
  | e :: rest =>
    if pl.state = .idle then { player := pl, output := 0, completed := none }
    else if pl.startPending then
      { player := { pl with startPending := false }, output := 0, completed := none }
    else
      let c := st.clip e.clip
      let out := satSample (roundDiv (sampleOf (clipWord st.mem c pl.readPtr) * e.gain) 4096)
      if c.length ≤ pl.readPtr + 1 then
        let r := passComplete pl e rest
        { player := r.1, output := out, completed := r.2 }
      else { player := { pl with readPtr := pl.readPtr + 1 }, output := out, completed := none }

/-- The duck weight's step, toward 32 while the player is not IDLE (R123). -/
def duckStep (pl : Player) : Player :=
  { pl with wd := stepToward pl.wd (gateTarget (pl.state ≠ .idle)) }

/-- The whole frame of a player. In a CLOSED position it forms no output; the duck weight steps in
every state (R121, R123). -/
def playerFrame (isClosed : Bool) (pl : Player) (st : ClipStore) : PlayerFrame :=
  let f := if isClosed then { player := pl, output := 0, completed := none } else playerOutput pl st
  { f with player := duckStep f.player }

end Sys2Proof.Machine
end

