-- ==== Sys2Proof/Machine/RouteCommands.lean ====
section
/-!
DEFINITION. The route commands of sections 5.2 to 5.4: ROUTE_PUT, ROUTE_DROP, ROUTE_REVERT,
ROUTE_COMMIT and ROUTE_LIST.
-/

namespace Sys2Proof.Machine

/-- The index of a pair in a table, if the pair is in it. -/
def routeIndex (t : List Route) (r : RoutePair) : Option Nat := t.findIdx? fun x => x.pair = r

/-- The routes of a table into one destination (R81). -/
def routesInto (t : List Route) (k : DestKind) (b : Position) : Nat :=
  (t.filter fun x => x.pair.dstKind = k ∧ x.pair.dst = b).length

/-- A forbidden route (R82): one position at both ends, or a RETURN source with a SEND destination. -/
def forbiddenPair (r : RoutePair) : Bool :=
  decide (r.src = r.dst) || (decide (r.srcKind = .residual) && decide (r.dstKind = .send))

/-- The pair of a ROUTE_PUT or ROUTE_DROP body, after its range checks: positions first, then kinds
(R83, R85). -/
def pairOf (wsk ws wdk wd : Word) : Option RoutePair :=
  match posOf ws, posOf wd, srcKindOf wsk, dstKindOf wdk with
  | some a, some b, some sk, some dk => some { srcKind := sk, src := a, dstKind := dk, dst := b }
  | _, _, _, _ => none

/-- The shadow table replaced. -/
def State.setShadow (s : State) (t : List Route) : State :=
  { s with routes := { s.routes with shadow := t } }

/-- The gain of the route at an index replaced; its place is kept (R84). -/
def setGainAt (t : List Route) (i gain : Nat) : List Route :=
  t.modify i fun x => { x with gain := gain }

def cmdRoutePut (body : List Word) (s : State) : Answer :=
  match body with
  | [wsk, ws, wdk, wd, wg] =>
    match pairOf wsk ws wdk wd with
    | none => refused s .refusedRange
    | some r =>
      if (s.posn r.src).record.stored = .closed ∨ (s.posn r.dst).record.stored = .closed then
        refused s .refusedState
      else if forbiddenPair r then refused s .refusedLoop
      else
        let t := s.routes.shadow
        let g := clampWord 0 8192 wg
        match routeIndex t r with
        | some i =>
          taken (s.setShadow (setGainAt t i g.1)) (doneCode g.2)
            [packBytes 1 i, numWord g.1, numWord t.length]
        | none =>
          if Config.routeLimit ≤ t.length ∨ Config.routesPerEnd ≤ routesInto t r.dstKind r.dst then
            refused s .refusedRoom
          else
            taken (s.setShadow (t ++ [{ pair := r, gain := g.1 }])) (doneCode g.2)
              [packBytes 0 t.length, numWord g.1, numWord (t.length + 1)]
  | _ => refused s .refusedLength

def cmdRouteDrop (body : List Word) (s : State) : Answer :=
  match body with
  | [wsk, ws, wdk, wd] =>
    match pairOf wsk ws wdk wd with
    | none => refused s .refusedRange
    | some r =>
      match routeIndex s.routes.shadow r with
      | none => refused s .refusedState
      | some i =>
        let t := s.routes.shadow.eraseIdx i
        taken (s.setShadow t) .done [numWord t.length]
  | _ => refused s .refusedLength

def cmdRouteRevert (body : List Word) (s : State) : Answer :=
  match body with
  | [] => taken (s.setShadow s.routes.active) .done [numWord s.routes.active.length]
  | _ => refused s .refusedLength

/-- ROUTE_COMMIT makes no reply and holds the command unit (R87). -/
def cmdRouteCommit (body : List Word) (s : State) : Answer :=
  match body with
  | [] =>
    { state := { s with routes := { s.routes with commitPending := true }, cmdUnit := .heldCommit }
      reply := none }
  | _ => refused s .refusedLength

def cmdRouteList (body : List Word) (s : State) : Answer :=
  match body with
  | [wk] =>
    if 63 < wk.toNat then refused s .refusedRange
    else
      let t := s.routes.active
      taken s .done
        (packBytes t.length wk.toNat ::
          ((t.drop wk.toNat).take 5).flatMap fun x => [routeWord x.pair, numWord x.gain])
  | _ => refused s .refusedLength

end Sys2Proof.Machine
end

