-- ==== Sys2Proof/Machine/CommandUnit.lean ====
section
/-!
DEFINITION. The input queue (R160), the command unit (R162, R163), and the message rows of the opcode
table: each is its message, placed in the input queue as a good message and taken at once when the
unit can take it and no earlier message waits (DESIGN CHOICE, unsafe: notes/assumptions/1.md).
-/

namespace Sys2Proof.Machine

/-! ## Kinds (section 12.4) -/

/-- What a command of the part does when it is taken, by its kind; none for a kind that is no command
(R162). -/
def commandOf (kind : Byte) : Option (List Word → State → Answer) :=
  match kind.toNat with
  | 0x01 => some cmdPosMap
  | 0x02 => some cmdPosOpen
  | 0x03 => some cmdPosClose
  | 0x04 => some cmdPosHold
  | 0x05 => some cmdPosMute
  | 0x06 => some cmdPosVolume
  | 0x07 => some cmdPosSet
  | 0x08 => some cmdPosQuery
  | 0x09 => some cmdPosTail
  | 0x10 => some cmdEcControl
  | 0x11 => some cmdEcReport
  | 0x18 => some cmdProfileWrite
  | 0x19 => some cmdProfileRead
  | 0x20 => some cmdRoutePut
  | 0x21 => some cmdRouteDrop
  | 0x22 => some cmdRouteRevert
  | 0x23 => some cmdRouteCommit
  | 0x24 => some cmdRouteList
  | 0x28 => some cmdProgSet
  | 0x29 => some cmdFallbackSet
  | 0x2A => some cmdProgQuery
  | 0x30 => some cmdClipBegin
  | 0x31 => some cmdClipData
  | 0x32 => some cmdClipCancel
  | 0x33 => some cmdClipDelete
  | 0x34 => some cmdClipQuery
  | 0x38 => some cmdPromptPlay
  | 0x39 => some cmdPromptStop
  | 0x3A => some cmdPromptQuery
  | 0x40 => some cmdShockSet
  | 0x41 => some cmdShockClear
  | 0x42 => some cmdShockQuery
  | 0x48 => some cmdKeymapSet
  | 0x50 => some cmdLinkArm
  | 0x51 => some cmdResume
  | 0x52 => some cmdDevQuery
  | 0x53 => some cmdDevReset
  | _ => none

/-- The kind of RESUME, which ends an overrun (R160). -/
def kindResume : Byte := 0x51

/-! ## Executing a message (R162, R163) -/

/-- The answer of a command: its state, with its reply placed if it makes one. -/
def settle (kind : Byte) (a : Answer) : State :=
  match a.reply with
  | none => a.state
  | some (code, results) => a.state.placeReply { kind := kind, code := code, results := results }

/-- The unit executes a message: a kind that is no command is refused with REFUSED_KIND, and any
other goes to its command, whose first check is the body length (R162). -/
def runMessage (m : Message) (s : State) : State :=
  match commandOf m.kind with
  | none => settle m.kind (refused s .refusedKind)
  | some f => settle m.kind (f m.body s)

/-- The unit can take a message (R162): it is ready, the reply buffer holds fewer than 2 replies, and
it has not taken a message in this frame. -/
def State.canTake (s : State) : Bool :=
  decide (s.cmdUnit = .ready) && decide (s.replies.length < Config.replyLimit) && s.flags.taken.isNone

/-- Taking removes the head of the input queue and executes it at once (R162). -/
def State.takeHead (s : State) : State :=
  match s.inputQueue with
  | [] => s
  | m :: rest =>
    if s.canTake then runMessage m ({ s with inputQueue := rest }.busy m.kind)
    else s

/-! ## Placing a good message (R160) -/

/-- A message is discarded in OVERRUN, and counted (R160). -/
def State.countDiscard (s : State) : State :=
  { s with receiver := { s.receiver with discards := countUp s.receiver.discards } }

def State.placeMessage (s : State) (m : Message) : State :=
  if s.receiver.overrun then
    if s.inputQueue.length < Config.inputLimit ∧ m.kind = kindResume then
      { s with inputQueue := s.inputQueue ++ [m], receiver := { s.receiver with overrun := false } }
    else s.countDiscard
  else if s.inputQueue.length < Config.inputLimit then { s with inputQueue := s.inputQueue ++ [m] }
  else
    let s1 := s.countDiscard
    { s1 with receiver := { s1.receiver with overrun := true } }.raise (.overrun m.kind)

/-- A message handed to the part whole: placed (R160), and taken at once when no earlier message
waits and the unit can take it (R162). -/
def State.deliver (s : State) (m : Message) : State :=
  let s1 := s.placeMessage m
  if s.inputQueue.isEmpty then s1.takeHead else s1

/-- A message row. While RESET_N is low the part takes nothing (R155). -/
def submit (kind : Byte) (body : List Word) (s : State) : Host.Outcome State Fault Refusal :=
  s.whenRunning fun s => s.deliver { kind := kind, body := body }

/-- The row's own mode word put in second place, after the position (section 12.4). -/
def withMode (mode : Word) : List Word → List Word
  | [] => [mode]
  | p :: rest => p :: mode :: rest

/-! ## The message rows -/

/-- POS_MAP (R14). -/
def execPosMap (args : List Word) (s : State) : Host.Outcome State Fault Refusal := submit 0x01 args s

/-- POS_OPEN (R15). -/
def execPosOpen (args : List Word) (s : State) : Host.Outcome State Fault Refusal := submit 0x02 args s

/-- POS_CLOSE (R16). -/
def execPosClose (args : List Word) (s : State) : Host.Outcome State Fault Refusal := submit 0x03 args s

/-- POS_HOLD (R17). -/
def execPosHold (args : List Word) (s : State) : Host.Outcome State Fault Refusal := submit 0x04 args s

/-- POS_MUTE (R18). -/
def execPosMute (args : List Word) (s : State) : Host.Outcome State Fault Refusal := submit 0x05 args s

/-- POS_VOLUME, mode ABSOLUTE (R19). -/
def execPosVolumeAbsolute (args : List Word) (s : State) : Host.Outcome State Fault Refusal :=
  submit 0x06 (withMode 0 args) s

/-- POS_VOLUME, mode STEP_UP (R19). -/
def execPosVolumeStepUp (args : List Word) (s : State) : Host.Outcome State Fault Refusal :=
  submit 0x06 (withMode 1 args) s

/-- POS_VOLUME, mode STEP_DOWN (R19). -/
def execPosVolumeStepDown (args : List Word) (s : State) : Host.Outcome State Fault Refusal :=
  submit 0x06 (withMode 2 args) s

/-- POS_SET (R20). -/
def execPosSet (args : List Word) (s : State) : Host.Outcome State Fault Refusal := submit 0x07 args s

/-- POS_QUERY (R22). -/
def execPosQuery (args : List Word) (s : State) : Host.Outcome State Fault Refusal := submit 0x08 args s

/-- POS_TAIL (R28). -/
def execPosTail (args : List Word) (s : State) : Host.Outcome State Fault Refusal := submit 0x09 args s

/-- EC_CONTROL, action FREEZE (R55). -/
def execEcControlFreeze (args : List Word) (s : State) : Host.Outcome State Fault Refusal :=
  submit 0x10 (withMode 0 args) s

/-- EC_CONTROL, action THAW (R55). -/
def execEcControlThaw (args : List Word) (s : State) : Host.Outcome State Fault Refusal :=
  submit 0x10 (withMode 1 args) s

/-- EC_CONTROL, action RESET (R56). -/
def execEcControlReset (args : List Word) (s : State) : Host.Outcome State Fault Refusal :=
  submit 0x10 (withMode 2 args) s

/-- EC_REPORT (R60). -/
def execEcReport (args : List Word) (s : State) : Host.Outcome State Fault Refusal := submit 0x11 args s

/-- PROFILE_WRITE (R72). -/
def execProfileWrite (args : List Word) (s : State) : Host.Outcome State Fault Refusal := submit 0x18 args s

/-- PROFILE_READ (R75). -/
def execProfileRead (args : List Word) (s : State) : Host.Outcome State Fault Refusal := submit 0x19 args s

/-- ROUTE_PUT (R83, R84). -/
def execRoutePut (args : List Word) (s : State) : Host.Outcome State Fault Refusal := submit 0x20 args s

/-- ROUTE_DROP (R85). -/
def execRouteDrop (args : List Word) (s : State) : Host.Outcome State Fault Refusal := submit 0x21 args s

/-- ROUTE_REVERT (R86). -/
def execRouteRevert (args : List Word) (s : State) : Host.Outcome State Fault Refusal := submit 0x22 args s

/-- ROUTE_COMMIT (R87). -/
def execRouteCommit (args : List Word) (s : State) : Host.Outcome State Fault Refusal := submit 0x23 args s

/-- ROUTE_LIST (R89). -/
def execRouteList (args : List Word) (s : State) : Host.Outcome State Fault Refusal := submit 0x24 args s

/-- PROG_SET (R103). -/
def execProgSet (args : List Word) (s : State) : Host.Outcome State Fault Refusal := submit 0x28 args s

/-- FALLBACK_SET (R104). -/
def execFallbackSet (args : List Word) (s : State) : Host.Outcome State Fault Refusal := submit 0x29 args s

/-- PROG_QUERY (R105). -/
def execProgQuery (args : List Word) (s : State) : Host.Outcome State Fault Refusal := submit 0x2A args s

/-- CLIP_BEGIN (R109). -/
def execClipBegin (args : List Word) (s : State) : Host.Outcome State Fault Refusal := submit 0x30 args s

/-- CLIP_DATA (R110). -/
def execClipData (args : List Word) (s : State) : Host.Outcome State Fault Refusal := submit 0x31 args s

/-- CLIP_CANCEL (R111). -/
def execClipCancel (args : List Word) (s : State) : Host.Outcome State Fault Refusal := submit 0x32 args s

/-- CLIP_DELETE (R114). -/
def execClipDelete (args : List Word) (s : State) : Host.Outcome State Fault Refusal := submit 0x33 args s

/-- CLIP_QUERY (R115). -/
def execClipQuery (args : List Word) (s : State) : Host.Outcome State Fault Refusal := submit 0x34 args s

/-- PROMPT_PLAY with the urgent flag off (R119). -/
def execPromptPlay (args : List Word) (s : State) : Host.Outcome State Fault Refusal :=
  submit 0x38 (args ++ [0]) s

/-- PROMPT_PLAY with the urgent flag on (R120). -/
def execPromptPlayUrgent (args : List Word) (s : State) : Host.Outcome State Fault Refusal :=
  submit 0x38 (args ++ [1]) s

/-- PROMPT_STOP, mode NOW (R124). -/
def execPromptStopNow (args : List Word) (s : State) : Host.Outcome State Fault Refusal :=
  submit 0x39 (withMode 0 args) s

/-- PROMPT_STOP, mode AFTER_PASS (R124). -/
def execPromptStopAfterPass (args : List Word) (s : State) : Host.Outcome State Fault Refusal :=
  submit 0x39 (withMode 1 args) s

/-- PROMPT_STOP, mode FLUSH (R124). -/
def execPromptStopFlush (args : List Word) (s : State) : Host.Outcome State Fault Refusal :=
  submit 0x39 (withMode 2 args) s

/-- PROMPT_QUERY (R126). -/
def execPromptQuery (args : List Word) (s : State) : Host.Outcome State Fault Refusal := submit 0x3A args s

/-- SHOCK_SET (R134). -/
def execShockSet (args : List Word) (s : State) : Host.Outcome State Fault Refusal := submit 0x40 args s

/-- SHOCK_CLEAR (R135). -/
def execShockClear (args : List Word) (s : State) : Host.Outcome State Fault Refusal := submit 0x41 args s

/-- SHOCK_QUERY (R136). -/
def execShockQuery (args : List Word) (s : State) : Host.Outcome State Fault Refusal := submit 0x42 args s

/-- KEYMAP_SET (R143). -/
def execKeymapSet (args : List Word) (s : State) : Host.Outcome State Fault Refusal := submit 0x48 args s

/-- LINK_ARM (R154). -/
def execLinkArm (args : List Word) (s : State) : Host.Outcome State Fault Refusal := submit 0x50 args s

/-- RESUME (R161). -/
def execResume (args : List Word) (s : State) : Host.Outcome State Fault Refusal := submit 0x51 args s

/-- DEV_QUERY (R166). -/
def execDevQuery (args : List Word) (s : State) : Host.Outcome State Fault Refusal := submit 0x52 args s

/-- DEV_RESET (R167). -/
def execDevReset (args : List Word) (s : State) : Host.Outcome State Fault Refusal := submit 0x53 args s

/-- UNKNOWN_KIND (R162): a message whose kind is no command of the part. With a command's kind the
step does not happen. (DESIGN CHOICE, safe: notes/assumptions/20.md). -/
def execUnknownKind (kind : Byte) (args : List Word) (s : State) : Host.Outcome State Fault Refusal :=
  if (commandOf kind).isSome then .next s else submit kind args s

end Sys2Proof.Machine
end

