-- ==== Sys2Proof/Machine/Keys.lean ====
section
/-!
DEFINITION. The key scanner: a status word arrival (R137), the debouncers (R139), key edges (R141) and
presence edges (R142). The commands STATUS_WORD_ARRIVAL, KEY_EDGE and PRESENCE_EDGE.
-/

namespace Sys2Proof.Machine

/-! ## The status word (R137, section 12.1) -/

/-- The arrival is valid: its valid field is on, and the H-link is driven and its status words are
taken in the frame (R137, R153, R154). -/
def State.arrivalValid (s : State) (w : Word) : Bool :=
  w.getLsbD 15 && decide (s.hlink.state = .driving) && !s.flags.armed

def presentField (w : Word) : Bool := w.getLsbD 14

/-- The field of a key; set is down. Bits 13 to 4 are not read (R168). -/
def keyField (w : Word) : Key → Bool
  | .mute => w.getLsbD 3
  | .hold => w.getLsbD 2
  | .volUp => w.getLsbD 1
  | .volDown => w.getLsbD 0

/-! ## Debouncing (R139) -/

/-- One debouncer at a valid arrival that shows `shown`, with V arrivals needed: the debouncer after
it, and whether it produced an edge. V of 0 is taken as 1. -/
def debounce (d : Debouncer) (shown : Bool) (v : Nat) : Debouncer × Bool :=
  if shown = d.level then ({ d with count := 0 }, false)
  else if max 1 v ≤ d.count + 1 then ({ level := shown, count := 0 }, true)
  else ({ d with count := d.count + 1 }, false)

/-- The H-slot of this frame's arrival: the one whose number is the frame number (R137). -/
def State.arrivalSlot (s : State) : Slot := s.timer.number

/-- The debouncers of the frame's H-slot. -/
def State.slotDebouncers (s : State) : SlotDebouncers := s.debouncers[s.arrivalSlot.val]

def State.setSlotDebouncers (s : State) (d : SlotDebouncers) : State :=
  { s with debouncers := s.debouncers.set s.arrivalSlot.val d }

/-- The presence debouncer's step; it uses the debounce code of the MUTE key (R138). -/
def State.presenceStep (s : State) (w : Word) : Debouncer × Bool :=
  debounce s.slotDebouncers.presence (presentField w) (debounceArrivals s.keymap.mute.debounce)

/-- A key debouncer's step. -/
def State.keyStep (s : State) (k : Key) (w : Word) : Debouncer × Bool :=
  debounce (s.slotDebouncers.ofKey k) (keyField w k) (debounceArrivals (s.keymap.entry k).debounce)

/-! ## Edges (R141, R142) -/

/-- The report edges of an entry include the edge. -/
def ReportEdges.includes : ReportEdges → Edge → Bool
  | .none, _ => false
  | .both, _ => true
  | .press, .press => true
  | .press, .release => false
  | .release, .release => true
  | .release, .press => false

/-- The pending entry that an action gives at an edge (R141). -/
def actionEntry : MapAction → Edge → Option KeyAction
  | .none, _ => none
  | .toggleMute, .press => some .muteToggle
  | .toggleMute, .release => none
  | .muteWhileDown, .press => some .muteOn
  | .muteWhileDown, .release => some .muteOff
  | .holdToggle, .press => some .holdToggle
  | .holdToggle, .release => none
  | .volumeUp, .press => some .volumeUp
  | .volumeUp, .release => none
  | .volumeDown, .press => some .volumeDown
  | .volumeDown, .release => none

/-- An entry joins the pending list, or is discarded when the list holds 4 (R10). -/
def appendAction (r : Record) (a : KeyAction) : Record :=
  if r.keys.length < Config.keyActionLimit then { r with keys := r.keys ++ [a] } else r

/-- A key edge of the frame's H-slot reaches the position that holds the slot: the report, then the
action (R141). -/
def State.keyEdge (s : State) (k : Key) (e : Edge) : State :=
  match s.hOwner s.arrivalSlot with
  | none => s
  | some p =>
    let entry := s.keymap.entry k
    let s1 := if entry.report.includes e then s.raise (.key p k e) else s
    match actionEntry entry.action e with
    | none => s1
    | some a => s1.modRecord p fun r => appendAction r a

/-- A presence edge changes ABSENT at once and raises its event (R142). -/
def State.presenceEdge (s : State) (present : Bool) : State :=
  match s.hOwner s.arrivalSlot with
  | none => s
  | some p =>
    (s.modRecord p fun r => { r with mute := { r.mute with absent := !present } }).raise
      (if present then .headsetOn p else .headsetOff p)

/-! ## An arrival (R139) -/

def State.takePresence (s : State) (w : Word) : State :=
  let r := s.presenceStep w
  let s1 := s.setSlotDebouncers { s.slotDebouncers with presence := r.1 }
  if r.2 then s1.presenceEdge r.1.level else s1

def State.takeKey (s : State) (w : Word) (k : Key) : State :=
  let r := s.keyStep k w
  let s1 := s.setSlotDebouncers (s.slotDebouncers.setKey k r.1)
  if r.2 then s1.keyEdge k (if r.1.level then .press else .release) else s1

/-- The five debouncers of the frame's H-slot take the word, in the order presence, MUTE, HOLD,
VOL_UP, VOL_DOWN. -/
def State.takeWord (s : State) (w : Word) : State :=
  let s1 := { s with flags := { s.flags with arrived := true } }
  ((((s1.takePresence w).takeKey w .mute).takeKey w .hold).takeKey w .volUp).takeKey w .volDown

/-- The quiet window of the frame in progress is still to come, and foreign drive in it would declare
CONFLICT (R153). -/
def State.mayConflict (s : State) : Bool :=
  decide (s.hlink.foreignCount = 1) && !s.flags.sensed && !s.flags.computed

/-- A status word arrives. An invalid arrival changes nothing (R137). While the frame's quiet window may
still declare CONFLICT, which makes the word invalid, the word waits for that window (R153).
(DEDUCED, unsafe: notes/assumptions/40.md). -/
def State.arrive (s : State) (w : Word) : State :=
  if s.arrivalValid w then
    if s.mayConflict then { s with flags := { s.flags with heldWords := s.flags.heldWords ++ [w] } }
    else s.takeWord w
  else s

/-- The words that waited for the quiet window are taken, in the order in which they came. Each is an arrival
of this step: a KEYMAP_SET (R143), a POS_MAP or a POSITION_TURN that stood between the word and the window in
the queue comes before it. (DEDUCED, unsafe: notes/assumptions/40.md). -/
def State.takeHeldWords (s : State) : State :=
  s.flags.heldWords.foldl State.takeWord { s with flags := { s.flags with heldWords := [] } }

/-! ## The commands -/

/-- STATUS_WORD_ARRIVAL (R137, R139). -/
def execStatusWordArrival (w : Word) (s : State) : Host.Outcome State Fault Refusal :=
  s.whenRunning fun s => s.arrive w

/-- KEY_EDGE (R141): the arrival, where it produces an edge of the key; else the step does not
happen. -/
def execKeyEdge (k : Key) (w : Word) (s : State) : Host.Outcome State Fault Refusal :=
  s.whenRunning fun s => if s.arrivalValid w && (s.keyStep k w).2 then s.arrive w else s

/-- PRESENCE_EDGE (R142): the arrival, where it produces a presence edge; else the step does not
happen. -/
def execPresenceEdge (w : Word) (s : State) : Host.Outcome State Fault Refusal :=
  s.whenRunning fun s => if s.arrivalValid w && (s.presenceStep w).2 then s.arrive w else s

end Sys2Proof.Machine
end

