-- ==== Sys2Proof/Machine/Arbiter.lean ====
section
/-!
DEFINITION. The outbound arbiter: one management symbol in each frame (R165), and the events and
replies leaving their lists (R164).
-/

namespace Sys2Proof.Machine

/-- The symbols of the message in transmission: of the oldest reply or of the oldest event (R165). -/
def State.txSymbols (s : State) (isReply : Bool) : List (Word × Word) :=
  if isReply then
    match s.replies with
    | [] => []
    | r :: _ => symbolsOf (replyMessage r)
  else
    match s.events with
    | [] => []
    | e :: _ => symbolsOf (eventMessage e)

/-- The GAP symbol as the part sends it (section 12.2). -/
def gapSymbol : Word × Word := (tagGap, 0)

/-- An event leaves a queue that holds `n` events after it. Events of the frame that found the queue full before
are lost for good, and those queued before them keep their places: what is raised later comes behind them.
(DESIGN CHOICE, unsafe: notes/assumptions/27.md). -/
def FrameFlags.eventGone (f : FrameFlags) (n : Nat) : FrameFlags :=
  if f.lost.isEmpty then { f with runs := f.runs.drop (f.runs.length - n) } else { f with runs := [], lost := [] }

/-- The message sent leaves its list, and 1 GAP is owed (R164, R165). -/
def State.messageGone (s : State) (isReply : Bool) : State :=
  if isReply then
    { s with
      replies := s.replies.tail, arbiter := { tx := none, owed := 1 }
      flags := { s.flags with newReplies := min s.flags.newReplies s.replies.tail.length } }.noteReplyGone
  else
    { s with
      events := s.events.tail, arbiter := { tx := none, owed := 1 }
      flags := s.flags.eventGone s.events.tail.length }

/-- Symbol `n` of the message is sent. The last is the TAIL. -/
def State.sendSymbol (s : State) (isReply : Bool) (n : Nat) : State × (Word × Word) :=
  let syms := s.txSymbols isReply
  let sym := syms.getD n gapSymbol
  if syms.length ≤ n + 1 then (s.messageGone isReply, sym)
  else ({ s with arbiter := { tx := some { isReply := isReply, sent := n + 1 }, owed := 0 } }, sym)

/-- A reply is a candidate of this frame's choice: one of an earlier frame, or any when the choice comes
last (R165). -/
def State.replyWaits (s : State) (o : FrameOrder) : Bool :=
  match o.choice with
  | .first => decide (s.flags.newReplies < s.replies.length)
  | .between => decide (s.flags.newReplies < s.replies.length)
  | .last => decide (0 < s.replies.length)

/-- The event at the head of the queue is a candidate of this frame's choice: one of an earlier frame; one
that depends on no reply of this frame, where the choice falls before those; or any (R165, R170). -/
def State.eventWaits (s : State) (o : FrameOrder) : Bool :=
  match o.choice with
  | .first => decide (s.flags.runs.length < s.events.length)
  | .between =>
    decide (s.flags.runs.length < s.events.length) ||
      (!s.events.isEmpty && (s.flags.runs.head?.any fun r => !r.tied))
  | .last => decide (0 < s.events.length)

/-- The symbol of the frame (R165): GAP while the T-link is not UP, each lowering the owed count;
else the next symbol of the message in transmission, an owed GAP, or a choice, replies first.
(DESIGN CHOICE, unsafe: notes/assumptions/27.md). -/
def State.outbound (s : State) (o : FrameOrder) : State × (Word × Word) :=
  if s.tlink.state ≠ .up then
    ({ s with arbiter := { s.arbiter with owed := s.arbiter.owed - 1 } }, gapSymbol)
  else match s.arbiter.tx with
  | some t => s.sendSymbol t.isReply t.sent
  | none =>
    if 0 < s.arbiter.owed then
      ({ s with arbiter := { s.arbiter with owed := s.arbiter.owed - 1 } }, gapSymbol)
    else if s.replyWaits o then s.sendSymbol true 0
    else if s.eventWaits o then s.sendSymbol false 0
    else (s, gapSymbol)

end Sys2Proof.Machine
end

