-- ==== Sys2Proof/Machine/Suppression.lean ====
section
/-!
DEFINITION. The noise suppressor: its frame (R66 to R69), its start (R65), its floor update (R70), and
the mute gate (R76).
-/

namespace Sys2Proof.Machine

/-- The magnitude of a mic sample: 32767 for −32768 (R66). -/
def micMagnitude (x : Int) : Nat := min 32767 x.natAbs

/-- The envelope after a sample of magnitude m (R66). The quotient is truncated toward zero. -/
def envelopeStep (q : Profile) (env m : Nat) : Nat :=
  if env < m then env + (m - env) / 2 ^ q.attack else env - (env - m) / 2 ^ q.release

/-- The band of an envelope over a floor (R67). -/
def bandOf (env floor : Nat) : Nat :=
  if env < 2 * floor then 0
  else if env < 4 * floor then 1
  else if env < 8 * floor then 2
  else if env < 16 * floor then 3
  else if env < 32 * floor then 4
  else if env < 64 * floor then 5
  else if env < 128 * floor then 6
  else 7

/-- The gain target of a band (R67, R68). -/
def gainTarget (q : Profile) (band : Nat) : Nat := q.curve.toList.getD band 4096

/-- The gain moves toward its target by at most the step of its direction (R68). -/
def slewGain (q : Profile) (gain target : Nat) : Nat :=
  if gain < target then min target (gain + q.upStep)
  else if target < gain then max target (gain - q.downStep)
  else gain

/-- The suppressor after a frame's sample (R66 to R68). -/
def suppressorStep (q : Profile) (n : Suppressor) (x : Int) : Suppressor :=
  let env := envelopeStep q n.env (micMagnitude x)
  { env := env, floor := n.floor, cycMin := min n.cycMin env
    gain := slewGain q n.gain (gainTarget q (bandOf env n.floor)) }

/-- The suppressed sample: the gain applied, or the sample itself in bypass (R68, R69). -/
def suppressedSample (q : Profile) (n : Suppressor) (x : Int) : Int :=
  if q.bypass then x else satSample (roundDiv (x * n.gain) 4096)

/-- The mute gate (R76). -/
def muteGate (y : Int) (wm : Nat) : Int := roundDiv (y * wm) 32

/-- The start of the suppressor at the turn that leaves OPENING for TALK (R65). -/
def suppressorStart (q : Profile) : Suppressor :=
  { env := 0, floor := q.initialFloor, cycMin := 32767, gain := 4096 }

/-- The floor update of a turn (R70). -/
def floorUpdate (q : Profile) (n : Suppressor) : Suppressor :=
  { n with
    floor := if n.cycMin < n.floor then max 1 n.cycMin
      else min 32767 (n.floor + max 1 (roundDiv n.floor (2 ^ q.rise)).toNat)
    cycMin := 32767 }

/-- The suppressor's cycle start: every pending copy becomes the active copy (R73). The frame remembers
which there were, for a PROFILE_WRITE of the frame replies as if it came first (R74). -/
def State.profileCycle (s : State) : State :=
  { s with
    profiles := Vector.ofFn fun k : Fin 4 => (s.pendingProfiles[k.val]).getD s.profiles[k.val]
    pendingProfiles := Vector.replicate 4 none
    flags := { s.flags with
      profilesDone := true
      copiesApplied := Vector.ofFn fun k : Fin 4 => (s.pendingProfiles[k.val]).isSome } }

end Sys2Proof.Machine
end

