-- ==== Sys2Proof/Machine/Cycle.lean ====
section
/-!
DEFINITION. The work of a cycle start: the programme monitor (R102), the pending profile copies (R73)
and the commit (R87). The commands CYCLE_START, PROG_SILENT, PROFILE_PENDING_APPLY and
ROUTE_COMMIT_APPLY.
-/

namespace Sys2Proof.Machine

/-! ## The programme monitor (R102) -/

/-- The ended cycle of a programme makes it SILENT: it is SOUNDING, the cycle was quiet, and the raised
count is at least S. -/
def Programme.fallsSilent (g : Programme) : Bool :=
  g.sounding && !g.loud && decide (g.silenceCycles ≤ min 255 (g.silentCount + 1))

/-- The ended cycle of a programme makes it SOUNDING. -/
def Programme.comesBack (g : Programme) : Bool := !g.sounding && g.loud

/-- One programme after its evaluation; its loud flag is clear (R102). -/
def Programme.evaluated (g : Programme) : Programme :=
  { g with
    sounding := if g.loud then true else g.sounding && !g.fallsSilent
    silentCount := if g.loud then 0 else min 255 (g.silentCount + 1)
    loud := false }

/-- The event of one programme's evaluation, if it has one. -/
def Programme.verdict (k : ProgId) (g : Programme) : List Event :=
  if g.fallsSilent then [.progSilent k] else if g.comesBack then [.progBack k] else []

/-- Every programme evaluated, the events in programme order (R102). -/
def State.monitor (s : State) : State :=
  ({ s with
      progs := Vector.ofFn fun k : Fin 4 => (s.progs[k.val]).evaluated
      flags := { s.flags with monitorDone := true } }).raiseAll
    ((List.finRange 4).flatMap fun (k : Fin 4) => Programme.verdict k s.progs[k.val])

/-- The monitor's cycle start is due: frame 0, before its computation, once (R102). -/
def State.monitorDue (s : State) : Bool :=
  decide (s.timer.number = 0) && !s.flags.computed && !s.flags.monitorDone

/-! ## The pending profile copies (R73) -/

def State.profilesDue (s : State) : Bool :=
  decide (s.timer.number = 0) && !s.flags.computed && !s.flags.profilesDone

/-! ## The commit (R87) -/

def State.commitDue (s : State) : Bool := decide (s.timer.number = 0) && !s.flags.commitDone

/-- The active table becomes a copy of the shadow table, commit-pending is cleared, the command unit
is ready, and the reply is made. -/
def State.commit (s : State) : State :=
  { s with
    routes := { s.routes with active := s.routes.shadow, commitPending := false }
    cmdUnit := .ready }.placeReply
    { kind := kindRouteCommit, code := .done, results := [numWord s.routes.shadow.length] }

/-- The mix engine's cycle start: a pending commit is applied (R87). -/
def State.commitCycle (s : State) : State :=
  let s1 := { s with flags := { s.flags with commitDone := true } }
  if s.routes.commitPending then s1.commit else s1

/-! ## The commands -/

/-- CYCLE_START (R102): the programme monitor's evaluation, where it is due. -/
def execCycleStart (s : State) : Host.Outcome State Fault Refusal :=
  s.whenRunning fun s => if s.monitorDue then s.monitor else s

/-- PROG_SILENT (R102): the cycle start at which programme k becomes SILENT; else the step does not
happen. -/
def execProgSilent (k : ProgId) (s : State) : Host.Outcome State Fault Refusal :=
  s.whenRunning fun s => if s.monitorDue && (s.progs[k.val]).fallsSilent then s.monitor else s

/-- PROFILE_PENDING_APPLY (R73). -/
def execProfilePendingApply (s : State) : Host.Outcome State Fault Refusal :=
  s.whenRunning fun s => if s.profilesDue then s.profileCycle else s

/-- ROUTE_COMMIT_APPLY (R87). -/
def execRouteCommitApply (s : State) : Host.Outcome State Fault Refusal :=
  s.whenRunning fun s => if s.commitDue then s.commitCycle else s

end Sys2Proof.Machine
end

