-- ==== Sys2Proof/Machine/EventOrder.lean ====
section
/-!
DEFINITION. The order of one frame's events (R170): the events of each block stand in the order in which
that block raised them, and the runs of different blocks may enter the event queue in either order.
-/

namespace Sys2Proof.Machine

/-! ## The interleaving -/

/-- The next event of a block leaves the list. None if the block has no event in it, or if its next one
stands behind an event of its own cause that has not left (R114): one of that event's block is then still
before it. -/
def pullFirst (b : EventBlock) : List (EventRun × Event) → Option ((EventRun × Event) × List (EventRun × Event))
  | [] => none
  | x :: xs =>
    if x.1.block = b then some (x, xs)
    else match pullFirst b xs with
      | none => none
      | some r => if r.1.1.behind = some x.1.block then none else some (r.1, x :: r.2)

/-- The events of several runs in one order: each pick takes the next event of its block, and what no pick
takes stays in the order in which it was raised. -/
def interleave : List EventBlock → List (EventRun × Event) → List (EventRun × Event)
  | [], l => l
  | b :: bs, l =>
    match pullFirst b l with
    | none => interleave bs l
    | some r => r.1 :: interleave bs r.2

/-- The number of events at the head of the queue that keep their places: those of earlier frames, and
one in transmission. -/
def State.fixedEvents (s : State) : Nat :=
  max (s.events.length - s.flags.runs.length)
    (match s.arbiter.tx with
      | none => 0
      | some t => if t.isReply then 0 else 1)

/-- The events of this frame that may change places: queued ones, then those that found the queue full. -/
def State.looseEvents (s : State) : List (EventRun × Event) :=
  (s.flags.runs.drop (s.flags.runs.length - (s.events.length - s.fixedEvents))).zip
    (s.events.drop s.fixedEvents) ++ s.flags.lost

/-- The first of the named blocks whose next event depends on no reply gives that event. -/
def pullFree : List EventBlock → List (EventRun × Event) → Option ((EventRun × Event) × List (EventRun × Event))
  | [], _ => none
  | b :: bs, l =>
    match pullFirst b l with
    | none => pullFree bs l
    | some r => if r.1.1.tied then pullFree bs l else some r

/-- The events of the frame in an order of R170. Where the choice falls between them and the replies of
the frame, an event that depends on no reply opens, if there is one. -/
def orderRuns (o : FrameOrder) (l : List (EventRun × Event)) : List (EventRun × Event) :=
  match o.choice with
  | .between =>
    match pullFree (o.picks.take 1 ++ l.map fun x => x.1.block) l with
    | none => interleave o.picks l
    | some r => r.1 :: interleave o.picks.tail r.2
  | .first => interleave o.picks l
  | .last => interleave o.picks l

/-- The events of the frame take their order (R170). The queue keeps its length, so where it was full the
order decides which events are lost. The frame goes on remembering those, for its events may be put in order
again where it closes later. -/
def State.orderEvents (s : State) (o : FrameOrder) : State :=
  let loose := s.events.length - s.fixedEvents
  let ordered := orderRuns o s.looseEvents
  { s with
    events := s.events.take s.fixedEvents ++ (ordered.take loose).map Prod.snd
    flags := { s.flags with
      runs := s.flags.runs.take (s.flags.runs.length - loose) ++ (ordered.take loose).map Prod.fst
      lost := ordered.drop loose } }

end Sys2Proof.Machine
end

