-- ==== Sys2Proof/Machine/FrameEnd.lean ====
section
/-!
DEFINITION. The end of a frame: the next frame number (R146), and what is taken over for the changes
that act from the frame after (R12, R20, R87, R90, R102, R104).
-/

namespace Sys2Proof.Machine

/-! ## The indicator word (R144) -/

/-- The indicator word of an H-slot: the fields of the position that holds it, as they stand. -/
def State.indicatorFor (s : State) (k : Slot) : Word :=
  match s.hOwner k with
  | none => 0
  | some p => indicatorOf (s.posn p)

/-- The indicator word of the H-slot numbered by the frame. -/
def State.indicatorWord (s : State) : Word := s.indicatorFor s.timer.number

/-! ## What the next frame uses -/

/-- What the next frame uses of a position: the parameters and the volume index as they stand now
(R12, R20, R129), the hold pointer of its record (R97), and the freeze set on which its turn is judged
(R48). -/
def latchPosn (x : PosState) : PosState :=
  { x with
    ec := { x.ec with freezeEnd := x.ec.freeze }
    inForce := { params := x.record.params, volume := x.record.volume, readPtr := none } }

/-- The shared tables as the next frame uses them, and its indicator word as it stands at its start. -/
def State.latched (s : State) : Latch :=
  { routes := s.routes.active, sounding := Vector.ofFn fun k : Fin 4 => (s.progs[k.val]).sounding
    fallback := s.fallback, clips := s.store.clips
    indicator := s.indicatorFor (nextNumber s.timer.number) }

/-- A reply that went in this frame makes the reset due in the next (R167). -/
def UnitState.nextFrame : UnitState → UnitState
  | .heldResetReplyGone => .heldResetDue
  | u => u

/-- The flags of a frame that begins. A LOST trunk has had its one frame (R150). -/
def freshFlags (st : TLinkState) : FrameFlags := { FrameFlags.fresh with lostEnded := decide (st = .lost) }

/-- The frame in progress ends and the next begins, one number on (R146).
(DEDUCED, unsafe: notes/assumptions/9.md). -/
def State.endFrame (s : State) : State :=
  { s.mapPosns (fun _ x => latchPosn x) with
    timer := { s.timer with number := nextNumber s.timer.number }
    latch := s.latched
    cmdUnit := s.cmdUnit.nextFrame
    flags := freshFlags s.tlink.state }

/-- What the next frame's marker or quiet window finds: a frame whose computation has been made has
ended. A message that still waits and can be taken in it is taken first (R162).
(DESIGN CHOICE, unsafe: notes/assumptions/6.md). -/
def State.closeOpenFrame (s : State) : State := if s.flags.computed then s.takeHead.endFrame else s

end Sys2Proof.Machine
end

