-- ==== Sys2Proof/Machine/Links.lean ====
section
/-!
DEFINITION. The links: the hunt and the loss of the T-link (R150, R151), the H-link driver's quiet window
(R153) and the reset pin (R155). The commands TLINK_LOST_EXPIRE, HLINK_QUIET_WINDOW, RESET_N_ASSERT,
PIN_RESET and DEV_RESET_PERFORM.
-/

namespace Sys2Proof.Machine

/-! ## Freeze reason LINK (R47) -/

def setLink (on : Bool) (x : PosState) : PosState :=
  { x with ec := { x.ec with freeze := { x.ec.freeze with link := on } } }

/-- LINK in all 32 freeze sets added or removed (R47). -/
def State.setAllLinks (s : State) (on : Bool) : State := s.mapPosns fun _ x => setLink on x

/-! ## Losing UP (R151, R159, R164, R165) -/

/-- A message in assembly is dropped as truncated, and a break run is ended without an error (R159). -/
def Receiver.linkLost (r : Receiver) : Receiver :=
  { r with
    assembly := none, breakRun := 0
    framingErrors := if r.assembly.isSome then countUp r.framingErrors else r.framingErrors }

/-- A message in transmission, reply or event, ends at once and 16 GAP symbols are owed (R165). -/
def Arbiter.cut (a : Arbiter) : Arbiter := if a.tx.isSome then { tx := none, owed := 16 } else a

/-- The second consecutive bad marker: the steps of R151 in their order. -/
def State.loseTrunk (s : State) : State :=
  let s1 := { s with
    tlink := { state := .lost, good := 0, bad := 0, lastGood := s.tlink.lastGood }
    timer := { s.timer with aligned := false } }
  let s2 := ((s1.setAllLinks true).raise (.linkTrunk .lost)).abortLoading .link
  { s2 with receiver := s2.receiver.linkLost, arbiter := s2.arbiter.cut }.flushReplies

/-! ## Markers (R150) -/

/-- LOST lasts one frame; in the next the receiver is ACQUIRING and hunts (R150).
(DESIGN CHOICE, safe: notes/assumptions/30.md). -/
def State.expireLost (s : State) : State :=
  if s.tlink.state = .lost ∧ s.flags.lostEnded then
    { s with tlink := { s.tlink with state := .acquiring, good := 0 } }
  else s

/-- The receiver hunts the incoming stream: in DOWN, and in ACQUIRING with no good marker held.
(DESIGN CHOICE, safe: notes/assumptions/11.md). -/
def TLink.hunts (t : TLink) : Bool :=
  match t.state with
  | .down => true
  | .acquiring => decide (t.good = 0)
  | .up => false
  | .lost => false

/-- A sync pattern found by hunting counts 1 (R150). -/
def State.foundSync (s : State) (n : FrameNumber) : State :=
  { s with tlink := { state := .acquiring, good := 1, bad := 0, lastGood := n } }

/-- TLINK_LOST_EXPIRE (R150): the frame after the one in which the trunk was lost. -/
def execTlinkLostExpire (s : State) : Host.Outcome State Fault Refusal :=
  s.whenRunning State.expireLost

/-! ## The quiet window (R153) -/

/-- The second consecutive window with foreign drive: CONFLICT (R153). From this step nothing is driven on
the H-link, and the status words of the frame are invalid. -/
def State.enterConflict (s : State) : State :=
  { s with
    hlink := { state := .conflict, foreignCount := 0 }
    outputs := { s.outputs with hFrame := none }
    flags := { s.flags with heldWords := [] } }.raise (.linkHeadset .conflict)

/-- The sync line is sensed, in DRIVING (R153). -/
def State.sense (s : State) (foreignDrive : Bool) : State :=
  let s1 := { s with flags := { s.flags with sensed := true } }
  if foreignDrive then
    if s.hlink.foreignCount = 0 then { s1 with hlink := { s.hlink with foreignCount := 1 } }
    else s1.enterConflict
  else { s1 with hlink := { s.hlink with foreignCount := 0 } }.takeHeldWords

/-- A quiet window. In CONFLICT it is not sensed, and after LINK_ARM detection starts afresh from the
next frame (R153, R154). A window after the computation of a frame is the next frame's
(DEDUCED, unsafe: notes/assumptions/40.md). -/
def State.quietWindow (s : State) (foreignDrive : Bool) : State :=
  if s.hlink.state = .driving then
    let s1 := s.closeOpenFrame
    if s1.hlink.state = .driving ∧ ¬ s1.flags.armed then s1.sense foreignDrive else s1
  else s

/-- HLINK_QUIET_WINDOW (R153). -/
def execHlinkQuietWindow (foreignDrive : Bool) (s : State) : Host.Outcome State Fault Refusal :=
  s.whenRunning fun s => s.quietWindow foreignDrive

/-! ## Resets (R155, R167) -/

/-- RESET_N_ASSERT (R155): neither link is driven. -/
def execResetNAssert (s : State) : Host.Outcome State Fault Refusal :=
  .next { s with resetLow := true, outputs := { s.outputs with tFrame := none, hFrame := none } }

/-- PIN_RESET (R155): RESET_N returns high and every block holds its reset values. The commands that
wait outside the part still wait. -/
def execPinReset (s : State) : Host.Outcome State Fault Refusal :=
  .next { State.reset with pending := s.pending, cuts := s.cuts }

/-- The reset of a DEV_RESET: as the release of RESET_N, but clip memory keeps its words (R107,
R167). -/
def State.devReset (s : State) : State :=
  { State.reset with
    store := { ClipStore.reset with mem := s.store.mem }, pending := s.pending, cuts := s.cuts }

/-- The reset, where it is due: the frame after the one in which the reply went (R167). -/
def State.performDueReset (s : State) : State :=
  if s.cmdUnit = .heldResetDue then s.devReset else s

/-- DEV_RESET_PERFORM (R167). -/
def execDevResetPerform (s : State) : Host.Outcome State Fault Refusal :=
  s.whenRunning State.performDueReset

end Sys2Proof.Machine
end

