-- ==== Sys2Proof/Machine/Cancelling.lean ====
section
/-!
DEFINITION. The echo canceller's frame (R36 to R44, R48) and its evaluation of the ended cycle at a
turn (R48 to R53), with the capture of the echo report (R58, R59).
-/

namespace Sys2Proof.Machine

/-! ## The window (R37, R38) -/

/-- The send sample of the frame goes to the front of the history, the oldest leaves (R37). -/
def pushHistory (hist : List Word) (x : Int) : List Word :=
  (wordOfSample x :: hist).take Config.historyLength

/-- The running power over the window (R38). -/
def powerOf (window : List Word) : Nat :=
  window.foldl (fun n w => n + (sampleOf w).natAbs * (sampleOf w).natAbs) 0

/-- The window maximum (R38). -/
def maxOf (window : List Word) : Nat := window.foldl (fun n w => max n (sampleOf w).natAbs) 0

/-- P and M over the first L samples of the history; 0 in OFF (R38). -/
def Canceller.withWindow (c : Canceller) (len : Nat) : Canceller :=
  if c.state = .off then { c with power := 0, winMax := 0 }
  else { c with power := powerOf (c.hist.take len), winMax := maxOf (c.hist.take len) }

/-! ## Estimate and residual (R39, R40) -/

/-- The sum of the products of coefficients and reference samples (R39). -/
def dot : List Word → List Word → Int
  | h :: hs, x :: xs => sampleOf h * sampleOf x + dot hs xs
  | _, _ => 0

/-- CONVERGING or CONVERGED: the states that form an estimate (R36). -/
def EcState.estimates : EcState → Bool
  | .converging => true
  | .converged => true
  | .off => false
  | .bypass => false

/-- The echo estimate y (R39). -/
def estimate (coefs hist : List Word) : Int := satSample (roundDiv (dot coefs hist) 32768)

/-- The residual e (R40). While the T-link is not UP it is 0 in every state (R47, R94, R151).
(DEDUCED, unsafe: notes/assumptions/34.md). -/
def residualOf (up : Bool) (st : EcState) (coefs hist : List Word) (d : Int) : Int :=
  if !up then 0
  else if st.estimates then satSample (d - estimate coefs hist)
  else d

/-! ## Double talk and adaptation (R41 to R44) -/

/-- Double talk is detected (R41). -/
def doubleTalk (ratio winMax : Nat) (d : Int) : Bool :=
  decide (ratio = 0) || decide (ratio * winMax < d.natAbs * 4096)

/-- The hangover counter after the frame's test (R41). -/
def hangoverStep (setting : Nat) (detected : Bool) (n : Nat) : Nat := if detected then setting else n - 1

/-- The gate of adaptation (R43). -/
def mayAdapt (c : Canceller) (q : Params) (detected : Bool) : Bool :=
  c.state.estimates && c.freeze.isEmpty && !detected && decide (c.hangover = 0) &&
    decide (regD q ≤ c.power) && decide (0 < q.stepM)

/-- The step factor q (R44). -/
def stepFactor (q : Params) (e : Int) (power : Nat) : Int :=
  saturate (-2147483648) 2147483647 (roundDiv (q.stepM * e * 4194304) (power + regD q))

/-- One coefficient after an update (R44). -/
def adaptCoef (f : Int) (h x : Word) : Word :=
  wordOfSample (satSample (sampleOf h + roundDiv (f * sampleOf x) 32768))

/-- The coefficients of one block, each updated with the reference sample of its own delay (R44). -/
def adaptCoefs (f : Int) : List Word → List Word → List Word
  | h :: hs, x :: xs => adaptCoef f h x :: adaptCoefs f hs xs
  | hs, _ => hs

/-- Every attached coefficient updated by the step factor and the reference sample of its delay; a
block takes the next 64 samples of the history (R44, R35). -/
def adaptTaps (f : Int) : List TapElem → List Word → List TapElem
  | [], _ => []
  | e :: es, hist =>
    if e.attached then
      { e with block := { e.block with coefs := adaptCoefs f e.block.coefs hist } } ::
        adaptTaps f es (hist.drop Config.blockTaps)
    else e :: adaptTaps f es hist

/-- What the canceller's frame gives. -/
structure EcFrame where
  ec : Canceller
  elems : List TapElem
  residual : Int

/-- Double talk is run: every state but OFF (R36). -/
def EcState.watches : EcState → Bool
  | .off => false
  | _ => true

/-- The canceller's frame on the return sample d and the send sample (R36 to R44, R48). `up` says that the
T-link is UP; `q` holds the parameters in force in the frame. -/
def ecFrame (up isClosed : Bool) (q : Params) (c : Canceller) (elems : List TapElem) (d send : Int) : EcFrame :=
  let c1 := ({ c with hist := pushHistory c.hist send }).withWindow (windowLength elems)
  let e := residualOf up c1.state (tapCoefs elems) c1.hist d
  let detected := c1.state.watches && doubleTalk q.dtRatio c1.winMax d
  let c2 : Canceller :=
    if c1.state.watches then
      { c1 with
        hangover := hangoverStep q.hangoverFrames detected c1.hangover
        dtFrames := if detected then min 32 (c1.dtFrames + 1) else c1.dtFrames }
    else c1
  let elems' := if mayAdapt c2 q detected then adaptTaps (stepFactor q e c2.power) elems c2.hist else elems
  let c3 : Canceller :=
    if isClosed then c2
    else { c2 with sumD := c2.sumD + d.natAbs * d.natAbs, sumE := c2.sumE + e.natAbs * e.natAbs }
  { ec := c3, elems := elems', residual := e }

/-! ## The turn (R48 to R53) -/

/-- The largest k up to `n` with Se × 2^k at most Sd, 0 if there is none (R49). -/
def largestBand (sumD sumE : Nat) : Nat → Nat
  | 0 => 0
  | n + 1 => if sumE * 2 ^ (n + 1) ≤ sumD then n + 1 else largestBand sumD sumE n

/-- The ERLE band of the ended cycle (R49). -/
def erleBand (sumD sumE : Nat) : Nat := if sumD = 0 then 0 else largestBand sumD sumE 15

/-- The turn is counted (R50). The freeze set is that of the ended cycle's last frame (R48), and D is
that of the parameters that stood then. A turn at which the attached count becomes 0, or at which
the teardown runs, is not counted: `lastTurn` says so. (DEDUCED, unsafe: notes/assumptions/15.md). -/
def counted (c : Canceller) (q : Params) (lastTurn : Bool) : Bool :=
  c.state.estimates && c.freezeEnd.isEmpty && decide (regD q ≤ c.power) && decide (0 < c.sumD) && !lastTurn

/-- The turn is divergent (R52). -/
def divergent (c : Canceller) : Bool :=
  decide (2 * c.sumD < c.sumE) && decide (2097152 ≤ c.sumE)

/-- A counted turn resets the coefficients: the divergence count reaches 2 (R52). -/
def diverges (c : Canceller) (q : Params) (lastTurn : Bool) : Bool :=
  counted c q lastTurn && divergent c && decide (1 ≤ c.divCount)

/-- A counted turn converges: the convergence count reaches 4 (R51). -/
def converges (c : Canceller) (q : Params) (convBand : Nat) (lastTurn : Bool) : Bool :=
  counted c q lastTurn && !(divergent c && decide (1 ≤ c.divCount)) && decide (c.state = .converging) &&
    decide (convBand ≤ erleBand c.sumD c.sumE) && decide (3 ≤ c.convCount)

/-- What the evaluation gives: the context, whether the coefficients are reset, the events. -/
structure EcVerdict where
  ec : Canceller
  zero : Bool
  events : List Event

/-- The convergence rule at a counted turn that resets nothing (R51). -/
def convergenceRule (p : Position) (c : Canceller) (convBand : Nat) : EcVerdict :=
  let band := erleBand c.sumD c.sumE
  match c.state with
  | .converging =>
    if convBand ≤ band then
      if 3 ≤ c.convCount then
        { ec := { c with state := .converged, convCount := 0, resetCount := 0 }, zero := false
          events := [.ecConverged p band] }
      else { ec := { c with convCount := c.convCount + 1 }, zero := false, events := [] }
    else { ec := { c with convCount := 0 }, zero := false, events := [] }
  | _ => { ec := c, zero := false, events := [] }

/-- The divergence reset (R52, R53). -/
def divergenceReset (p : Position) (c : Canceller) : EcVerdict :=
  let n := c.resetCount + 1
  if n < 3 then
    { ec := { c with state := .converging, divCount := 0, convCount := 0, resetCount := n }, zero := true
      events := [.ecDiverged p n] }
  else
    { ec := { c with state := .bypass, divCount := 0, convCount := 0, resetCount := 3 }, zero := true
      events := [.ecDiverged p 3, .ecBypassed p] }

/-- The evaluation of the ended cycle: divergence before convergence (R50 to R53). -/
def evaluate (p : Position) (c : Canceller) (q : Params) (convBand : Nat) (lastTurn : Bool) : EcVerdict :=
  if counted c q lastTurn then
    if divergent c then
      if 1 ≤ c.divCount then divergenceReset p c
      else convergenceRule p { c with divCount := c.divCount + 1 } convBand
    else convergenceRule p { c with divCount := 0 } convBand
  else { ec := c, zero := false, events := [] }

/-- The sums and the double-talk count restart at 0 (R42, R48). -/
def Canceller.restartCycle (c : Canceller) : Canceller := { c with sumD := 0, sumE := 0, dtFrames := 0 }

/-- The canceller becomes OFF: P and M are 0, the counts and the hangover counter are cleared (R8,
R32, R36). -/
def Canceller.toOff (c : Canceller) : Canceller :=
  { c with
    state := .off, power := 0, winMax := 0, hangover := 0, convCount := 0, divCount := 0
    resetCount := 0 }

/-- The canceller starts: CONVERGING with every count 0 (R6, R32). -/
def Canceller.toConverging (c : Canceller) : Canceller :=
  { c with state := .converging, convCount := 0, divCount := 0, resetCount := 0 }

/-! ## The echo report (R58, R59) -/

/-- The lowest tap index with the largest magnitude, with its coefficient; none when every
coefficient is 0 (R58). `i` is the index of the list's first tap. -/
def peakFrom : List Word → Nat → Option (Nat × Word) → Option (Nat × Word)
  | [], _, best => best
  | h :: hs, i, best =>
    let m := match best with
      | none => 0
      | some b => (sampleOf b.2).natAbs
    peakFrom hs (i + 1) (if m < (sampleOf h).natAbs then some (i, h) else best)

/-- An energy of the report: the sum divided by 256, rounded and saturated (R58). -/
def reportEnergy (sum : Nat) : Nat := min 4294967295 (roundDiv sum 256).toNat

/-- The record that a turn builds (R58): the canceller as the turn's work left it, and the sums and
the double-talk count of the ended cycle. -/
def buildReport (after : Canceller) (elems : List TapElem) (ended : Canceller) : EchoReport :=
  let peak := peakFrom (tapCoefs elems) 0 none
  { state := after.state, freeze := after.freeze, band := erleBand ended.sumD ended.sumE
    returnEnergy := reportEnergy ended.sumD, residualEnergy := reportEnergy ended.sumE
    peakTap := peak.map Prod.fst
    peakCoef := match peak with
      | none => 0
      | some b => b.2
    dtFrames := ended.dtFrames, resetCount := after.resetCount }

/-- The capture (R59): in AUTO at every turn, in SINGLE where the unread flag is clear. -/
def capture (mode : CaptureMode) (after : Canceller) (elems : List TapElem) (ended : Canceller) : Canceller :=
  if mode = .single ∧ after.unread then after
  else { after with report := buildReport after elems ended, unread := true }

end Sys2Proof.Machine
end

