-- ==== Sys2Proof/Machine/Mixing.lean ====
section
/-!
DEFINITION. The sample arithmetic of one frame, position by position: the weight step (R3), the uplink
(R66 to R69, R76), the mixes (R91 to R93), the hold input and the send (R96 to R98), the residual
(R40), the ear chain (R129 to R133).
-/

namespace Sys2Proof.Machine

/-- A CLOSED position (R2). -/
def PosState.isClosed (x : PosState) : Bool := decide (x.record.stored = .closed)

/-! ## The weights (R3, R4) -/

/-- h reaches 0 with hold target 0 while the stored state is not CLOSING (R4, R45). -/
def holdLeaves (r : Record) : Bool :=
  decide (r.stored ≠ .closing) && !r.holdTarget && decide (r.h ≠ 0) &&
    decide (stepToward r.h (gateTarget r.holdTarget) = 0)

/-- The three gate weights step toward their targets (R3). A hold that has been left removes freeze
reason HOLD in this frame (R4). -/
def stepWeights (x : PosState) : PosState :=
  { x with
    record := { x.record with
      wo := stepToward x.record.wo (gateTarget x.record.outTarget)
      h := stepToward x.record.h (gateTarget x.record.holdTarget)
      wm := stepToward x.record.wm (gateTarget x.record.muteTarget) }
    ec := { x.ec with freeze := { x.ec.freeze with hold := x.ec.freeze.hold && !holdLeaves x.record } } }

/-! ## The uplink (R64, R66 to R69, R76) -/

/-- What one stage of a frame gives for a position: its state after the stage, and a signal. -/
structure Lane where
  posn : PosState
  signal : Int

/-- The suppressor and the mute gate. In a CLOSED position they do not run and u_p is 0. -/
def uplinkLane (q : Profile) (x : PosState) (mic : Int) : Lane :=
  if x.isClosed then { posn := x, signal := 0 }
  else
    let n := suppressorStep q x.ns mic
    { posn := { x with ns := n }, signal := muteGate (suppressedSample q n mic) x.record.wm }

/-! ## Routes into a mix (R91, R92) -/

/-- The source sample of a route, from the uplinks and the residuals of the frame (R80). -/
def sourceSample (us es : Position → Int) (r : Route) : Int :=
  match r.pair.srcKind with
  | .uplink => us r.pair.src
  | .residual => es r.pair.src

/-- The exact sum of the route products into one destination. -/
def routeSum (us es : Position → Int) (t : List Route) (k : DestKind) (b : Position) : Int :=
  (t.filter fun r => r.pair.dstKind = k ∧ r.pair.dst = b).foldl
    (fun n r => n + sourceSample us es r * r.gain) 0

/-- The talk mix (R91). `routes` is the sum of the routes into SEND(p). -/
def talkMix (u routes : Int) : Int := satSample (roundDiv (u * 4096 + routes) 4096)

/-- The duck gain (R93). -/
def duckGain (level wd : Nat) : Int := 4096 - roundDiv ((4096 - (level : Int)) * wd) 32

/-- The residual weight (R93). -/
def residualWeight (level wd h : Nat) : Int := roundDiv (duckGain level wd * (32 - (h : Int))) 32

/-- The ear mix (R92). `routes` is the sum of the routes into EAR(p). -/
def earMix (e u prompt routes weight sidetone : Int) : Int :=
  satSample (roundDiv (e * weight + u * sidetone + prompt * 4096 + routes) 4096)

/-! ## The hold input and the send (R96 to R98) -/

/-- The clip in view of a hold source (R97). -/
def clipInView (fallback : Option ClipId) : HoldSource → Option ClipId
  | .clip c => some c
  | .prog _ => fallback

/-- The pointer from which a clip of length n is read (R97). -/
def readPointer (n ptr : Nat) : Nat := if n ≤ ptr then 0 else ptr

/-- The pointer after the read (R97). -/
def advance (n ptr : Nat) : Nat := if n ≤ ptr + 1 then 0 else ptr + 1

/-- The hold pointer after a frame with h above 0 (R97). -/
def pointerAfter (l : Latch) (src : HoldSource) (ptr : Nat) : Nat :=
  match clipInView l.fallback src with
  | some c =>
    let n := (l.clips[c.val]).length
    advance n (readPointer n ptr)
  | none => advance Config.clipWords ptr

/-- A clip's sample at a hold pointer (R96, R97). -/
def clipSample (l : Latch) (mem : List ClipCell) (c : ClipId) (ptr : Nat) : Int :=
  let r := l.clips[c.val]
  sampleOf (clipWord mem r (readPointer r.length ptr))

/-- The hold input (R96). `prog` gives the programme samples of the frame. -/
def holdInput (l : Latch) (mem : List ClipCell) (prog : ProgId → Int) (src : HoldSource) (ptr : Nat) : Int :=
  match src with
  | .clip c => clipSample l mem c ptr
  | .prog k =>
    if l.sounding[k.val] then prog k
    else match l.fallback with
      | none => 0
      | some c => clipSample l mem c ptr

/-- The crossfade (R98 step 1). -/
def sendPre (talk holdIn : Int) (h gain : Nat) : Int :=
  satSample (roundDiv (talk * (32 - (h : Int)) * 4096 + holdIn * gain * h) 131072)

/-- The output gate (R98 step 2). -/
def sendSample (pre : Int) (wo : Nat) : Int := roundDiv (pre * wo) 32

/-- The pointer at which the hold input of the frame is read (R96, R97). -/
def holdReadPtr (x : PosState) : Nat := x.inForce.readPtr.getD x.record.holdPtr

/-- The hold pointer after a frame with h above 0 (R97). The pointer of a source that a POS_SET wrote in
this frame stands at 0, for the new source is first read in the frame after (R96). -/
def holdPtrAfter (l : Latch) (x : PosState) : Nat :=
  if x.inForce.readPtr = none then pointerAfter l x.inForce.params.holdSource x.record.holdPtr
  else x.record.holdPtr

/-- The send of a position: 0 when CLOSED (R23, R98). With h at 0 no hold input is formed and the
pointer stands (R96, R97). (DEDUCED, unsafe: notes/assumptions/18.md). -/
def sendLane (l : Latch) (mem : List ClipCell) (prog : ProgId → Int) (talk : Int) (x : PosState) : Lane :=
  let r := x.record
  let src := x.inForce.params.holdSource
  if x.isClosed then { posn := x, signal := 0 }
  else if r.h = 0 then { posn := x, signal := sendSample (sendPre talk 0 0 x.inForce.params.holdGain) r.wo }
  else
    { posn := { x with record := { r with holdPtr := holdPtrAfter l x } }
      signal := sendSample
        (sendPre talk (holdInput l mem prog src (holdReadPtr x)) r.h x.inForce.params.holdGain) r.wo }

/-! ## The residual -/

/-- The canceller's frame of a position; the signal is e_p. `up` says that the T-link is UP.
(DEDUCED, unsafe: notes/assumptions/21.md). -/
def residualLane (up : Bool) (x : PosState) (d send : Int) : Lane :=
  let f := ecFrame up x.isClosed x.inForce.params x.ec x.taps.elems d send
  { posn := { x with ec := f.ec, taps := { x.taps with elems := f.elems } }, signal := f.residual }

/-! ## The ear -/

/-- What the ear chain of a position gives. -/
structure EarLane where
  posn : PosState
  ear : Int
  /-- The entry that completed, with its passes (R122). -/
  completed : Option (PromptEntry × Nat)
  /-- The stage entered LIMITING (R130). -/
  cameOn : Bool
  /-- The release ramp ended (R132). -/
  wentOff : Bool

/-- The player, the ear mix and the earpiece chain. In a CLOSED position only the duck weight steps
(R121, R123, R128). The ear mix uses the duck level of the head as it stands: of a command taken in the
frame before its computation, the new head's (R123). (DESIGN CHOICE, unsafe: notes/assumptions/37.md). -/
def earLane (st : ClipStore) (routes e u : Int) (x : PosState) : EarLane :=
  let f := playerFrame x.isClosed x.player st
  let x1 := { x with player := f.player }
  if x.isClosed then { posn := x1, ear := 0, completed := none, cameOn := false, wentOff := false }
  else
    let mix := earMix e u f.output routes (residualWeight f.player.duckLevel f.player.wd x.record.h)
      x.inForce.params.sidetone
    let g := earFrame x.shock (gatedEar mix x.inForce.volume x.record.wo)
    { posn := { x1 with shock := g.shock }, ear := g.ear, completed := f.completed
      cameOn := g.cameOn, wentOff := g.wentOff }

end Sys2Proof.Machine
end

