-- ==== Sys2Proof/Machine/Receiver.lean ====
section
/-!
DEFINITION. The management receiver: assembly (R157), the management break (R158) and the counts
(R159). The commands MGMT_SYMBOL, GAP_TIMEOUT and MGMT_BREAK.
-/

namespace Sys2Proof.Machine

/-! ## Assembly (R157) -/

/-- A framing error (R157). -/
def Receiver.framingError (r : Receiver) : Receiver := { r with framingErrors := countUp r.framingErrors }

/-- A check failure (R157). -/
def Receiver.checkFailure (r : Receiver) : Receiver := { r with checkFailures := countUp r.checkFailures }

/-- The message in assembly is discarded; the receiver is idle (R157). -/
def Receiver.drop (r : Receiver) : Receiver := { r with assembly := none }

/-- A HEAD begins a message, or is a framing error when its length is above 16 (R157). A message in
assembly is dropped with one framing error in either case. -/
def Receiver.head (r : Receiver) (data : Word) : Receiver :=
  let len := (loByte data).toNat
  let r1 := if r.assembly.isSome ∨ 16 < len then r.framingError else r
  { r1 with
    assembly := if 16 < len then none
      else some { kind := hiByte data, length := len, words := [], sum := data, gaps := 0 } }

/-- A GAP raises the gap count; at 16 the message is dropped as truncated (R157). -/
def Receiver.gap (r : Receiver) (a : Assembly) : Receiver :=
  if 16 ≤ a.gaps + 1 then r.drop.framingError
  else { r with assembly := some { a with gaps := a.gaps + 1 } }

/-- A BODY is one word more, or a framing error when all words are held (R157). -/
def Receiver.body (r : Receiver) (a : Assembly) (data : Word) : Receiver :=
  if a.words.length < a.length then
    { r with assembly := some { a with words := a.words ++ [data], sum := a.sum + data, gaps := 0 } }
  else r.drop.framingError

/-- A symbol that is not a BRK is taken by the receiver: the receiver after it and the good message it
completes (R157). -/
def Receiver.take (r : Receiver) (tag data : Word) : Receiver × Option Message :=
  if tag = tagHead then (r.head data, none)
  else match r.assembly with
  | none => (if tag = tagGap then r else r.framingError, none)
  | some a =>
    if tag = tagGap then (r.gap a, none)
    else if tag = tagBody then (r.body a data, none)
    else if tag = tagTail ∧ a.words.length = a.length then
      if data = a.sum then (r.drop, some { kind := a.kind, body := a.words })
      else (r.drop.checkFailure, none)
    else (r.drop.framingError, none)

/-! ## The break (R158) -/

/-- A symbol that is not a BRK ends the run; a run of 1 to 3 is one framing error (R158). -/
def Receiver.endRun (r : Receiver) : Receiver :=
  if r.breakRun = 0 then r
  else if r.breakRun < 4 then { r.framingError with breakRun := 0 }
  else { r with breakRun := 0 }

/-- The management break: the steps of R158 in their order. -/
def State.managementBreak (s : State) : State :=
  let s1 := { s with inputQueue := [], receiver := { s.receiver with assembly := none, overrun := false } }
  ((s1.flushReplies).abortLoading .brk).raise .mgmtReady

/-- A BRK drops the message in assembly without a count and raises the run; the fourth performs the
break, and further ones do nothing (R157, R158). -/
def State.takeBrk (s : State) : State :=
  let n := s.receiver.breakRun
  let s1 := { s with receiver := { s.receiver.drop with breakRun := min 4 (n + 1) } }
  if n = 3 then s1.managementBreak else s1

/-- One delivered symbol (R156 to R158, R160). A message that it completes is placed, and taken at once
when no earlier message waits and the unit can take it (R162).
(DESIGN CHOICE, unsafe: notes/assumptions/6.md). -/
def State.takeSymbol (s : State) (tag data : Word) : State :=
  if tag = tagBrk then s.takeBrk
  else
    let r := s.receiver.endRun.take tag data
    let s1 := { s with receiver := r.1 }
    match r.2 with
    | none => s1
    | some m => s1.deliver m

/-- A symbol is delivered while the T-link is UP alone (R151, R156). -/
def State.deliverSymbol (s : State) (tag data : Word) : State :=
  if s.tlink.state = .up then s.takeSymbol tag data else s

/-! ## The commands -/

/-- MGMT_SYMBOL (R157). -/
def execMgmtSymbol (tag data : Word) (s : State) : Host.Outcome State Fault Refusal :=
  s.whenRunning fun s => s.deliverSymbol tag data

/-- The next GAP brings the gap count to 16. -/
def Receiver.gapsOut (r : Receiver) : Bool :=
  match r.assembly with
  | none => false
  | some a => decide (15 ≤ a.gaps)

/-- GAP_TIMEOUT (R157): the GAP symbol that brings the gap count to 16; else the step does not
happen. -/
def execGapTimeout (s : State) : Host.Outcome State Fault Refusal :=
  s.whenRunning fun s => if s.receiver.gapsOut then s.deliverSymbol tagGap 0 else s

/-- MGMT_BREAK (R158): the BRK symbol that brings the run to 4; else the step does not happen. -/
def execMgmtBreak (s : State) : Host.Outcome State Fault Refusal :=
  s.whenRunning fun s => if s.receiver.breakRun = 3 then s.deliverSymbol tagBrk 0 else s

end Sys2Proof.Machine
end

