-- ==== Sys2Proof/Machine/Turn.lean ====
section
/-!
DEFINITION. The turn of a position (R5): the position controller's steps, the close teardown (R8), the
tail change (R31) and the turn work of the canceller, the suppressor and the shock stage. The commands
POSITION_TURN, OPENING_EXIT, CLOSING_ENTRY, TEARDOWN, TAIL_CHANGE_APPLY, EC_CONVERGED, EC_DIVERGED and
SHOCK_HOLD_EXPIRE.
-/

namespace Sys2Proof.Machine

/-! ## Key actions (R10) -/

def applyKeyAction (r : Record) : KeyAction → Record
  | .muteToggle => { r with mute := { r.mute with key := !r.mute.key } }
  | .muteOn => { r with mute := { r.mute with key := true } }
  | .muteOff => { r with mute := { r.mute with key := false } }
  | .holdToggle => { r with holdWish := !r.holdWish }
  | .volumeUp => { r with volume := min 15 (r.volume + 1) }
  | .volumeDown => { r with volume := r.volume - 1 }

/-- The pending key actions applied in list order; the list is then empty (R10). -/
def applyKeyActions (r : Record) : Record := { r.keys.foldl applyKeyAction r with keys := [] }

/-! ## Tail change (R31, R32) -/

/-- A reserved element becomes attached, its coefficients 0 (R31). -/
def TapElem.attach (e : TapElem) : TapElem :=
  if e.attached then e else { block := e.block.zeroed, attached := true }

/-- What the canceller does when the attached count changes at a turn (R32). A position in OPENING
has its canceller state set by R6 instead. -/
def windowChange (opening : Bool) (before : Nat) (elems : List TapElem) (c : Canceller) : Canceller :=
  let after := attachedCount elems
  if opening then c
  else if after = 0 then (if before = 0 then c else c.toOff)
  else if before = 0 then c.toConverging.withWindow (windowLength elems)
  else c.withWindow (windowLength elems)

/-- The list and the canceller after a tail change. -/
def retail (x : PosState) (elems : List TapElem) : PosState :=
  { x with
    taps := { elems := elems, change := none }
    ec := windowChange (x.record.stored = .opening) (attachedCount x.taps.elems) elems x.ec }

/-- The pending tail change of p, if one exists, is applied and its record cleared (R31). -/
def State.applyTail (s : State) (p : Position) : State :=
  let x := s.posn p
  match x.taps.change with
  | none => s
  | some .grow => s.setPosn p (retail x (x.taps.elems.map TapElem.attach))
  | some (.shrink n) => (s.setPosn p (retail x (x.taps.elems.take n))).returnBlocks (x.taps.elems.drop n)

/-! ## The teardown (R8) -/

/-- A route names the position at either end (R90). -/
def Route.names (p : Position) (x : Route) : Bool := decide (x.pair.src = p) || decide (x.pair.dst = p)

/-- Step 2: the routes that name p leave both tables, with ROUTES_DROPPED if there was one (R90). -/
def State.pruneRoutes (s : State) (p : Position) : State :=
  let keep := fun (t : List Route) => t.filter fun x => !x.names p
  let a := keep s.routes.active
  let b := keep s.routes.shadow
  let da := s.routes.active.length - a.length
  let db := s.routes.shadow.length - b.length
  let s1 := { s with routes := { s.routes with active := a, shadow := b } }
  if da = 0 ∧ db = 0 then s1 else s1.raise (.routesDropped p da db)

/-- The PROMPT_DROPPED events of a flush at close, head to tail (R8 step 3). -/
def closeDrops (p : Position) : List PromptEntry → Nat → List Event
  | [], _ => []
  | e :: es, passes =>
    (if e.notify then [.promptDropped p e.clip passes .close] else []) ++ closeDrops p es 0

/-- Uses released one after another; the CLIP_FREED events in the order the clips reach 0. -/
def releaseUses (st : ClipStore) : List ClipId → ClipStore × List Event
  | [] => (st, [])
  | c :: cs =>
    let r := st.releaseUse c
    let q := releaseUses r.1 cs
    (q.1, r.2 ++ q.2)

/-- The clips that a position lets go of at its teardown: those of its prompt entries, head to tail,
then that of its hold source (R8 steps 3 and 4). -/
def heldClips (x : PosState) : List ClipId :=
  x.player.queue.map (fun e => e.clip) ++
    (match x.record.params.holdSource with
      | .prog _ => []
      | .clip c => [c])

/-- The position after its teardown: steps 1 and 3 to 7 on p's own record. -/
def tornDown (x : PosState) : PosState :=
  { record :=
      { x.record with
        stored := .closed, keys := [], holdPtr := 0
        params := { x.record.params with holdSource := .prog 0 }
        mute := { key := false, mgmt := false, absent := x.record.mute.absent } }
    taps := .reset
    ec :=
      { x.ec.toOff with
        freeze := { hold := false, mgmt := false, link := x.ec.freeze.link }
        report := .cleared, unread := false }
    ns := x.ns
    player := { Player.reset with wd := x.player.wd }
    shock := { x.shock with state := .normal, sg := 4096, overCount := 0, hold := 0 }
    inForce := { x.inForce with readPtr := none } }

/-- The teardown (R8). Steps 5 to 7 raise no event; CLIP_FREED events stand at step 4, after the
PROMPT_DROPPED events of step 3, and POS_CLOSED is last. All of them stand in the position controller's
run, in the order of the steps. (DEDUCED, unsafe: notes/assumptions/23.md). -/
def State.tearDown (s : State) (p : Position) : State :=
  let x := s.posn p
  let s1 := (s.returnBlocks x.taps.elems).pruneRoutes p
  let s2 := s1.raiseAll (closeDrops p x.player.queue x.player.passes)
  let r := releaseUses s2.store (heldClips x)
  let s3 := { s2 with store := r.1 }.raiseAllIn .positions none r.2
  (s3.setPosn p (tornDown x)).raise (.posClosed p)

/-! ## The position controller at a turn (R5 to R7) -/

/-- Entry into CLOSING (R7). -/
def enterClosing (r : Record) : Record :=
  { r with
    stored := .closing, closeReq := false, outTarget := false, holdWish := false
    holdTarget := false, keys := [] }

/-- Leaving OPENING for TALK (R6): the output gate opens, the suppressor and the canceller start. -/
def enterTalk (q : Profile) (x : PosState) : PosState :=
  { x with
    record := { x.record with stored := .active, outTarget := true, keys := [] }
    ns := suppressorStart q
    ec := if attachedCount x.taps.elems = 0 then x.ec.toOff else x.ec.toConverging }

/-- A talk-and-hold turn (R5 step 3): the key actions are applied and the hold wish is copied into
the hold target. A target that becomes 32 adds freeze reason HOLD and sets the hold pointer to 0
(R4). -/
def talkTurn (x : PosState) : PosState :=
  let r := applyKeyActions x.record
  let x1 := { x with record := { r with holdTarget := r.holdWish } }
  if r.holdWish ∧ ¬ r.holdTarget then
    { x1 with
      record := { x1.record with holdPtr := 0 }
      inForce := { x1.inForce with readPtr := x1.inForce.readPtr.map fun _ => 0 }
      ec := { x1.ec with freeze := { x1.ec.freeze with hold := true } } }
  else x1

/-- The teardown is due at this turn (R5 step 4). -/
def tearsDown (r : Record) : Bool := decide (r.stored = .closing) && decide (r.wo = 0)

/-- The profile of a position that starts its suppressor: the active copy of the profile that its
parameter names at the turn (R65). (DEDUCED, unsafe: notes/assumptions/16.md). -/
def State.turnProfile (s : State) (p : Position) : Profile :=
  s.profiles[(s.posn p).record.params.nsProfile.val]

/-- The profile that the suppressor of p uses in this frame: the parameter as it stood at the start
of the frame (R20, R78), the active copy as it stands (R73). -/
def State.frameProfile (s : State) (p : Position) : Profile :=
  s.profiles[(s.posn p).inForce.params.nsProfile.val]

/-- Steps 1 to 5 of R5. -/
def State.control (s : State) (p : Position) : State :=
  let x := s.posn p
  match x.record.stored with
  | .opening =>
    if x.record.closeReq then s.modRecord p enterClosing
    else s.setPosn p (enterTalk (s.turnProfile p) x)
  | .active =>
    if x.record.closeReq then s.modRecord p enterClosing else s.setPosn p (talkTurn x)
  | .closing =>
    if x.record.wo = 0 then s.tearDown p else s.modRecord p fun r => { r with keys := [] }
  | .closed => s.modRecord p fun r => { r with keys := [] }

/-! ## The whole turn -/

/-- The suppressor's floor update at the turn of a running position, other than the turn that starts
it and the turn that closes the position (R70, R71). -/
def floorTurns (r : Record) : Bool :=
  match r.stored with
  | .closed => false
  | .opening => r.closeReq
  | .active => true
  | .closing => !tearsDown r

/-- The evaluation of the ended cycle at p's turn (R48 to R53).
(DEDUCED, unsafe: notes/assumptions/16.md). -/
def verdictAt (p : Position) (x : PosState) : EcVerdict :=
  let lastTurn : Bool := tearsDown x.record || decide (x.taps.change = some (.shrink 0))
  if x.record.stored = .closed then { ec := x.ec, zero := false, events := [] }
  else evaluate p x.ec x.inForce.params x.record.params.convBand lastTurn

/-- The evaluation taken into the state: the verdict's context with the sums restarted, the
coefficients reset, the events raised (R48, R51 to R53). -/
def State.judge (s : State) (p : Position) : State :=
  let x := s.posn p
  let v := verdictAt p x
  (s.setPosn p
    { x with
      taps := { x.taps with elems := if v.zero then zeroTaps x.taps.elems else x.taps.elems }
      ec := v.ec.restartCycle }).raiseAll v.events

/-- The capture of the echo report (R59), on the ended cycle's sums in `ended`. The record takes the freeze
set as it stands now (R58), so a FREEZE or THAW of this frame (R57) shows in it if it came before the turn and
not if it comes after it. (DEDUCED, unsafe: notes/assumptions/42.md). -/
def captureTurn (ended : Canceller) (x : PosState) : PosState :=
  if x.record.stored = .closed then x
  else { x with ec := capture x.record.params.capture x.ec x.taps.elems ended }

/-- Step 6 of R5: the mute gate target from the mute reasons. -/
def muteTurn (x : PosState) : PosState :=
  { x with record := { x.record with muteTarget := x.record.mute.isEmpty } }

/-- The turn of position p, the work of every block in it (R5): the ended cycle is judged first, then
the floor and the hold counter, the tail change, the controller's steps, the mute gate target, and
last the capture. -/
def State.turn (s : State) (p : Position) : State :=
  let x := s.posn p
  let q := s.frameProfile p
  let s1 := s.judge p
  let s2 := s1.modPosn p fun y =>
    { y with
      ns := if floorTurns x.record then floorUpdate q y.ns else y.ns
      shock := shockTurn y.shock }
  let s3 := (s2.applyTail p).control p
  let s4 := s3.modPosn p fun y => captureTurn x.ec (muteTurn y)
  { s4 with flags := { s4.flags with turnDone := true } }

/-- The turn of p is due: the frame in progress is numbered p, its computation has not been made and
its turn has not come yet (R5, R146). -/
def State.turnDue (s : State) (p : Position) : Bool :=
  decide (s.timer.number = p) && !s.flags.computed && !s.flags.turnDone && !s.resetLow

/-- At a frame numbered 0 the suppressor's cycle start precedes the turn of position 0, which uses the
new profile copies (R73). -/
def State.profilesBeforeTurn (s : State) : State :=
  if s.timer.number = 0 ∧ ¬ s.flags.profilesDone then s.profileCycle else s

/-- The turn of p in the frame in progress. -/
def State.takeTurn (s : State) (p : Position) : State := s.profilesBeforeTurn.turn p

/-- A turn step: the turn of p if it is due and its named outcome takes place in it; else the step
does not happen and nothing changes (DESIGN CHOICE, safe: notes/assumptions/3.md). -/
def turnStep (p : Position) (outcome : PosState → Bool) (s : State) :
    Host.Outcome State Fault Refusal :=
  if s.turnDue p && outcome (s.posn p) then .next (s.takeTurn p) else .next s

/-! ## The commands -/

/-- POSITION_TURN (R5). -/
def execPositionTurn (p : Position) (s : State) : Host.Outcome State Fault Refusal :=
  turnStep p (fun _ => true) s

/-- OPENING_EXIT (R6): the turn of a position in OPENING. -/
def execOpeningExit (p : Position) (s : State) : Host.Outcome State Fault Refusal :=
  turnStep p (fun x => decide (x.record.stored = .opening)) s

/-- CLOSING_ENTRY (R7): the turn of a position in OPENING or a talk-and-hold state with its close
request set. -/
def execClosingEntry (p : Position) (s : State) : Host.Outcome State Fault Refusal :=
  turnStep p
    (fun x => x.record.closeReq &&
      (decide (x.record.stored = .opening) || decide (x.record.stored = .active))) s

/-- TEARDOWN (R8): the turn of a CLOSING position with w_o equal to 0. -/
def execTeardown (p : Position) (s : State) : Host.Outcome State Fault Refusal :=
  turnStep p (fun x => tearsDown x.record) s

/-- TAIL_CHANGE_APPLY (R31): the turn of a position with a pending tail change. -/
def execTailChangeApply (p : Position) (s : State) : Host.Outcome State Fault Refusal :=
  turnStep p (fun x => decide (x.taps.change ≠ none)) s

/-- EC_CONVERGED (R51): the turn at which the convergence count reaches 4. -/
def execEcConverged (p : Position) (s : State) : Host.Outcome State Fault Refusal :=
  turnStep p
    (fun x => decide (x.record.stored ≠ .closed) &&
      converges x.ec x.inForce.params x.record.params.convBand
        (tearsDown x.record || decide (x.taps.change = some (.shrink 0)))) s

/-- EC_DIVERGED (R52, R53): the turn at which the divergence count reaches 2. -/
def execEcDiverged (p : Position) (s : State) : Host.Outcome State Fault Refusal :=
  turnStep p
    (fun x => decide (x.record.stored ≠ .closed) &&
      diverges x.ec x.inForce.params
        (tearsDown x.record || decide (x.taps.change = some (.shrink 0)))) s

/-- SHOCK_HOLD_EXPIRE (R131): the turn at which the hold counter of a LIMITING stage reaches 0. -/
def execShockHoldExpire (p : Position) (s : State) : Host.Outcome State Fault Refusal :=
  turnStep p (fun x => holdExpires x.shock) s

end Sys2Proof.Machine
end

