-- ==== Sys2Proof/Machine/Frame.lean ====
section
/-!
DEFINITION. One frame of the part: the work that is due in it, its computation on the received
samples, the outgoing frames, and its end. The commands FRAME, HANGOVER_EXPIRE, PROMPT_PASS_COMPLETE,
SHOCK_ON, SHOCK_OFF, MESSAGE_SENT and HOLD_LEAVE_COMPLETE.
-/

namespace Sys2Proof.Machine

/-! ## The work that is due (DESIGN CHOICE, unsafe: notes/assumptions/6.md) -/

/-- What must come first in the frame: the end of LOST (R150), a due reset (R167), and the status words
that waited for a quiet window that did not come (R153). -/
def State.beginFrame (s : State) : State := s.expireLost.performDueReset.takeHeldWords

/-- The work of a cycle start that has not been done yet. -/
def State.dueCycle (s : State) : State :=
  let s1 := if s.monitorDue then s.monitor else s
  let s2 := if s1.profilesDue then s1.profileCycle else s1
  if s2.commitDue then s2.commitCycle else s2

/-- An entry that a player completed: PROMPT_DONE if asked for, and the release of its clip's use (R122). -/
def State.promptCompleted (s : State) (p : Position) (done : Option (PromptEntry × Nat)) : State :=
  match done with
  | none => s
  | some (e, n) => s.leaveQueue e (.promptDone p e.clip n)

/-- The player of a position that is torn down at this frame's turn makes its frame before the turn
(R127). The CLOSED position then forms no output. The frame's one step of the duck weight (R123) is not made
here: it follows the teardown, toward 0. (DESIGN CHOICE, unsafe: notes/assumptions/28.md). -/
def State.playerAhead (s : State) (p : Position) : State :=
  let f := playerOutput (s.posn p).player s.store
  (s.modPlayer p fun _ => f.player).promptCompleted p f.completed

/-- The turn of the frame's position, if it has not come yet. -/
def State.dueTurn (s : State) (o : FrameOrder) : State :=
  let p := s.timer.number
  if s.turnDue p then
    (if o.playersBeforeTurn && tearsDown (s.posn p).record then s.playerAhead p else s).takeTurn p
  else s

/-- The work of the frame before its turn: a waiting message, the cycle start, a message after a
commit. The messages are left for later where the frame's order says so (R162). A message that waited when the
frame began is taken here at the earliest: after the marker, the quiet window and the arrivals of the frame,
and after the turn and the cycle start where those were commanded before FRAME.
(DESIGN CHOICE, unsafe: notes/assumptions/6.md). -/
def State.beforeTurn (s : State) (o : FrameOrder) : State :=
  if o.messageLast then s.dueCycle else s.takeHead.dueCycle.takeHead

/-- The work of the frame before its computation. -/
def State.dueWork (s : State) (o : FrameOrder) : State := (s.beforeTurn o).dueTurn o

/-! ## Received samples (R148, R151, R153) -/

/-- Mic samples are delivered: the driver is DRIVING, and not only since LINK_ARM in this frame. -/
def State.hears (s : State) : Bool := decide (s.hlink.state = .driving) && !s.flags.armed

def State.micSample (s : State) (inp : FrameInputs) (x : PosState) : Int :=
  match x.record.hSlot with
  | none => 0
  | some k => if s.hears then sampleOf inp.mics[k.val] else 0

def State.returnSample (s : State) (inp : FrameInputs) (x : PosState) : Int :=
  match x.record.tSlot with
  | none => 0
  | some k => if s.tlink.state = .up then sampleOf inp.returns[k.val] else 0

def State.progSample (s : State) (inp : FrameInputs) (k : ProgId) : Int :=
  if s.tlink.state = .up then sampleOf inp.progs[k.val] else 0

/-! ## The computation -/

/-- The lanes of a stage, one for each position. -/
abbrev Lanes := Vector Lane 32

def Lanes.signal (l : Lanes) (p : Position) : Int := (l[p.val]).signal

def Lanes.posn (l : Lanes) (p : Position) : PosState := (l[p.val]).posn

/-- The uplinks of the frame. -/
def State.uplinks (s : State) (inp : FrameInputs) : Lanes :=
  Vector.ofFn fun p => uplinkLane (s.frameProfile p) (s.posn p) (s.micSample inp (s.posn p))

/-- No residual enters a send (R82). -/
def noResidual : Position → Int := fun _ => 0

/-- The sends of the frame. -/
def State.sends (s : State) (inp : FrameInputs) (us : Lanes) : Lanes :=
  Vector.ofFn fun p =>
    sendLane s.latch s.store.mem (s.progSample inp)
      (talkMix (us.signal p) (routeSum us.signal noResidual s.latch.routes .send p)) (us.posn p)

/-- The residuals of the frame. -/
def State.residuals (s : State) (inp : FrameInputs) (sends : Lanes) : Lanes :=
  Vector.ofFn fun p =>
    residualLane (decide (s.tlink.state = .up)) (sends.posn p) (s.returnSample inp (sends.posn p)) (sends.signal p)

/-- The ear chains of the frame. -/
def State.ears (s : State) (us es : Lanes) : Vector EarLane 32 :=
  Vector.ofFn fun p =>
    earLane s.store (routeSum us.signal es.signal s.latch.routes .ear p) (es.signal p) (us.signal p)
      (es.posn p)

/-- The loud flags of the frame (R101), with the threshold that stands now. -/
def State.compareProgrammes (s : State) (inp : FrameInputs) : State :=
  { s with
    progs := Vector.ofFn fun k : Fin 4 =>
      { s.progs[k.val] with
        loud := (s.progs[k.val]).loud || decide ((s.progs[k.val]).threshold < (s.progSample inp k).natAbs) } }

/-! ## Events of the computation (R130, R132, R170) -/

/-- One event of the computation: an entry that completed, or an event of the earpiece protection. -/
inductive FrameEvent where
  | completed (p : Position) (e : PromptEntry) (passes : Nat)
  | shock (e : Event)
deriving DecidableEq, Repr

/-- The players' run, in position order (DESIGN CHOICE, unsafe: notes/assumptions/14.md). -/
def playerRun (ears : Vector EarLane 32) : List FrameEvent :=
  (List.finRange 32).flatMap fun p =>
    match (ears[p.val]).completed with
    | none => []
    | some (e, n) => [.completed p e n]

/-- SHOCK_ON with the volume index, the limit gain and the mode (R130).
(DEDUCED, unsafe: notes/assumptions/25.md). -/
def shockOnEvent (p : Position) (x : PosState) : Event :=
  .shockOn p x.record.volume x.shock.limitGain x.shock.mode

/-- The earpiece protection's run, in position order (DESIGN CHOICE, unsafe: notes/assumptions/14.md). -/
def shockRun (ears : Vector EarLane 32) : List FrameEvent :=
  (List.finRange 32).flatMap fun p =>
    let l := ears[p.val]
    (if l.cameOn then [.shock (shockOnEvent p l.posn)] else []) ++
      (if l.wentOff then [.shock (.shockOff p)] else [])

def State.takeFrameEvent (s : State) : FrameEvent → State
  | .completed p e n => s.promptCompleted p (some (e, n))
  | .shock e => s.raise e

/-! ## The outgoing frames (R148, R149, R151, R153) -/

/-- A position fills its slots: it is not CLOSED and has both (R23, R148). -/
def fills (x : PosState) : Bool := !x.isClosed && x.record.hSlot.isSome && x.record.tSlot.isSome

/-- The audio of the frame as it is laid into slots. -/
def State.audioOf (s : State) (sends : Position → Int) (ears : Position → Int) : AudioFrame :=
  { trunk := Vector.ofFn fun k =>
      match s.tOwner k with
      | none => 0
      | some p => if fills (s.posn p) then wordOfSample (sends p) else 0
    ear := Vector.ofFn fun k =>
      match s.hOwner k with
      | none => 0
      | some p => if fills (s.posn p) then wordOfSample (ears p) else 0 }

def noAudio : Vector Word 32 := Vector.replicate 32 0

/-- The outgoing T-link frame. -/
def State.trunkFrame (s : State) (symbol : Word × Word) : TFrame :=
  { marker := markerWord s.timer.number
    audio := if s.tlink.state = .up then s.outputs.earlier.trunk else noAudio
    programmes := Vector.replicate 4 0, tag := symbol.1, data := symbol.2 }

/-- The outgoing H-link frame, while the H-link is driven. -/
def State.headsetFrame (s : State) (indicator : Word) : Option HFrame :=
  if s.hears then
    some { marker := markerWord s.timer.number, audio := s.outputs.earlier.ear, indicator := indicator }
  else none

/-- The frames go out and the audio computed in this frame waits two frames (R149). -/
def State.drive (s : State) (audio : AudioFrame) (indicator : Word) (symbol : Word × Word) : State :=
  { s with outputs :=
      { tFrame := some (s.trunkFrame symbol), hFrame := s.headsetFrame indicator
        computed := audio, earlier := s.outputs.computed } }

/-! ## The frame -/

/-- The samples and the per-position state of a frame's computation. -/
structure Computed where
  sends : Lanes
  ears : Vector EarLane 32

/-- The lanes of the frame, from the state after the weight step. -/
def State.lanes (s : State) (inp : FrameInputs) : Computed :=
  let us := s.uplinks inp
  let sends := s.sends inp us
  { sends := sends, ears := s.ears us (s.residuals inp sends) }

/-- The state after the signal arithmetic and its events. -/
def State.signalWork (s : State) (inp : FrameInputs) (c : Computed) : State :=
  (playerRun c.ears ++ shockRun c.ears).foldl State.takeFrameEvent
    (({ s with pos := Vector.ofFn fun p => (c.ears[p.val]).posn }).compareProgrammes inp)

/-- The computation of a frame on its inputs, with its events in their order (R170). `early` is the
indicator word formed before the work of FRAME; the word formed before everything else in the frame
stands in the latch. What comes after the computation of the frame (a message that FRAME leaves until then, or
anything in a frame that is left open) comes after the word (DESIGN CHOICE, unsafe: notes/assumptions/29.md),
and after the arbiter's choice, so its reply and its events are candidates of the next choice alone
(DESIGN CHOICE, unsafe: notes/assumptions/27.md). -/
def State.compute (s : State) (inp : FrameInputs) (early : Word) : State :=
  let s1 := s.mapPosns fun _ x => stepWeights x
  let c := s1.lanes inp
  let s2 := (s1.signalWork inp c).orderEvents inp.order
  let indicator := match inp.order.indicator with
    | .frameStart => s.latch.indicator
    | .beforeWork => early
    | .afterWork => s2.indicatorWord
  let out := s2.outbound inp.order
  let s3 := out.1.drive (s2.audioOf c.sends.signal fun p => (c.ears[p.val]).ear) indicator out.2
  { s3 with flags := { s3.flags with computed := true } }

/-- The frame up to its computation. -/
def State.prepared (s : State) (o : FrameOrder) : State := s.beginFrame.dueWork o

/-- The frame with its computation made. -/
def State.computedFrame (s : State) (inp : FrameInputs) : State :=
  (s.prepared inp.order).compute inp s.beginFrame.indicatorWord

/-- An open frame is closed: a message that still waits and can be taken is taken (R162), the frame's
events take their order (R170), and the frame ends. -/
def State.closeFrame (s : State) (o : FrameOrder) : State := (s.takeHead.orderEvents o).endFrame

/-- The frame ends after its computation, or stays open for commands that come after it. A message that
was left for later is taken first. -/
def State.closeIf (s : State) (o : FrameOrder) : State :=
  if o.closes then
    if o.messageLast && !s.inputQueue.isEmpty then s.closeFrame o else s.endFrame
  else s

/-- One frame. A frame whose computation has been made is not computed again: the command then closes it,
or does nothing. (DESIGN CHOICE, safe: notes/assumptions/7.md). -/
def State.frameStep (s : State) (inp : FrameInputs) : State :=
  if s.flags.computed then (if inp.order.closes then s.closeFrame inp.order else s)
  else (s.computedFrame inp).closeIf inp.order

/-- FRAME (R3). -/
def execFrame (inp : FrameInputs) (s : State) : Host.Outcome State Fault Refusal :=
  s.whenRunning fun s => s.frameStep inp

/-- A frame in the case that a named outcome takes place in its computation; else the step does not
happen. `outcome` compares the state before the computation with the state after it. -/
def namedFrame (inp : FrameInputs) (outcome : State → State → Bool) (s : State) :
    Host.Outcome State Fault Refusal :=
  s.whenRunning fun s =>
    if !s.flags.computed && outcome (s.prepared inp.order) (s.computedFrame inp) then s.frameStep inp
    else s

/-- HANGOVER_EXPIRE (R41): the hangover counter of p reaches 0 in the frame. -/
def execHangoverExpire (p : Position) (inp : FrameInputs) (s : State) : Host.Outcome State Fault Refusal :=
  namedFrame inp
    (fun a b => decide ((a.posn p).ec.hangover ≠ 0) && decide ((b.posn p).ec.hangover = 0)) s

/-- The player's read of the frame ends a pass (R121, R122). -/
def passEndsIn (s : State) (p : Position) : Bool :=
  !(s.posn p).isClosed && (s.posn p).player.passEnds s.store

/-- The player of p makes its frame before p's teardown, and its read ends a pass (R127). -/
def passEndsAhead (s : State) (o : FrameOrder) (p : Position) : Bool :=
  o.playersBeforeTurn && s.turnDue p && tearsDown (s.posn p).record && (s.posn p).player.passEnds s.store

/-- PROMPT_PASS_COMPLETE (R122): a pass of p's head entry completes in the frame. -/
def execPromptPassComplete (p : Position) (inp : FrameInputs) (s : State) :
    Host.Outcome State Fault Refusal :=
  namedFrame inp
    (fun a _ => passEndsIn a p || passEndsAhead (s.beginFrame.beforeTurn inp.order) inp.order p) s

/-- SHOCK_ON (R130): the stage of p enters LIMITING in the frame. -/
def execShockOn (p : Position) (inp : FrameInputs) (s : State) : Host.Outcome State Fault Refusal :=
  namedFrame inp
    (fun a b =>
      (decide ((a.posn p).shock.state = .normal) || decide ((a.posn p).shock.state = .releasing)) &&
        decide ((b.posn p).shock.state = .limiting)) s

/-- SHOCK_OFF (R132): the release ramp of p ends in the frame. -/
def execShockOff (p : Position) (inp : FrameInputs) (s : State) : Host.Outcome State Fault Refusal :=
  namedFrame inp
    (fun a b =>
      decide ((a.posn p).shock.state = .releasing) && decide ((b.posn p).shock.state = .normal)) s

/-- The frame carries a TAIL symbol. -/
def sendsTail (s : State) : Bool :=
  match s.outputs.tFrame with
  | none => false
  | some f => decide (f.tag = tagTail)

/-- MESSAGE_SENT (R165): the TAIL of a message is sent in the frame. -/
def execMessageSent (inp : FrameInputs) (s : State) : Host.Outcome State Fault Refusal :=
  namedFrame inp (fun _ b => sendsTail b) s

/-- HOLD_LEAVE_COMPLETE (R4): h of p reaches 0 with hold target 0 in the frame. -/
def execHoldLeaveComplete (p : Position) (inp : FrameInputs) (s : State) :
    Host.Outcome State Fault Refusal :=
  namedFrame inp (fun a _ => holdLeaves (a.posn p).record) s

end Sys2Proof.Machine
end

