-- ==== Sys2Proof/Machine/Markers.lean ====
section
/-!
DEFINITION. The T-link receiver at a marker (R150), the cut frame and the realignment of the frame timer
(R147), and the trunk coming UP (R152). The commands TLINK_MARKER and SYNC_PATTERN_FOUND.
-/

namespace Sys2Proof.Machine

/-! ## Entering UP (R147, R152) -/

/-- What the part receives in the frame that is cut short, with an order by which it ends. -/
def cutInputs (n : Nat) : FrameInputs :=
  let inp := Config.cutShort n
  { inp with order := { inp.order with closes := true } }

/-- The frame in progress ends at the fourth good marker (R147, R150). Where its computation has not been
made, it is made on what the part received in the frame, which no command gives: a free value.
(DESIGN CHOICE, unsafe: notes/assumptions/13.md). -/
def State.cutShort (s : State) : State :=
  if s.flags.computed then s.closeOpenFrame
  else { s with cuts := s.cuts + 1 }.frameStep (cutInputs s.cuts)

/-- The realigning frame takes the marker's number (R147). -/
def State.realign (s : State) (g : FrameNumber) : State :=
  { s with
    timer := { number := g, aligned := true }
    latch := { s.latch with indicator := s.indicatorFor g } }

/-- The trunk is UP: the frame timer realigned, LINK removed and reported (R150, R152). -/
def State.trunkUp (s : State) (g : FrameNumber) : State :=
  ({ s.realign g with tlink := { state := .up, good := 0, bad := 0, lastGood := g } }.setAllLinks
    false).raise (.linkTrunk .up)

/-- The fourth good marker, numbered g: the frame in progress ends, and the marker opens the next frame. In
a frame in which a reset is due (R167) the reset comes first, and the marker is the first one found by a
receiver in DOWN (R155). (DESIGN CHOICE, unsafe: notes/assumptions/13.md). -/
def State.enterUp (s : State) (g : FrameNumber) : State :=
  if s.cmdUnit = .heldResetDue then s.performDueReset.foundSync g else s.cutShort.trunkUp g

/-! ## Markers (R150) -/

/-- A marker position in ACQUIRING after a first marker (R150). -/
def State.markerAcquiring (s : State) (w : Word) : State :=
  if hasSync w ∧ markerNumber w = nextNumber s.tlink.lastGood then
    if 3 ≤ s.tlink.good then s.enterUp (markerNumber w)
    else { s with tlink := { s.tlink with good := s.tlink.good + 1, lastGood := markerNumber w } }
  else { s with tlink := { s.tlink with good := 0 } }

/-- A marker position in UP (R150): it opens the frame after the one computed last, and is good when
it carries that frame's number. (DESIGN CHOICE, unsafe: notes/assumptions/31.md). -/
def State.markerUp (s : State) (w : Word) : State :=
  let s1 := s.closeOpenFrame
  if hasSync w ∧ markerNumber w = s1.timer.number then { s1 with tlink := { s1.tlink with bad := 0 } }
  else if s1.tlink.bad = 0 then { s1 with tlink := { s1.tlink with bad := 1 } }
  else s1.loseTrunk

/-- The word at a marker position, or where the hunting receiver looks (R150). -/
def State.judgeMarker (s : State) (w : Word) : State :=
  let s1 := s.expireLost
  match s1.tlink.state with
  | .down => if hasSync w then s1.foundSync (markerNumber w) else s1
  | .acquiring =>
    if s1.tlink.good = 0 then (if hasSync w then s1.foundSync (markerNumber w) else s1)
    else s1.markerAcquiring w
  | .up => s1.markerUp w
  | .lost => s1

/-! ## The commands -/

/-- TLINK_MARKER (R150). -/
def execTlinkMarker (w : Word) (s : State) : Host.Outcome State Fault Refusal :=
  s.whenRunning fun s => s.judgeMarker w

/-- SYNC_PATTERN_FOUND (R150): a receiver that does not hunt finds nothing. -/
def execSyncPatternFound (n : FrameNumber) (s : State) : Host.Outcome State Fault Refusal :=
  s.whenRunning fun s => if s.expireLost.tlink.hunts then s.expireLost.foundSync n else s

end Sys2Proof.Machine
end

