-- ==== Sys2Proof/Machine/Dispatch.lean ====
section
/-!
DEFINITION. The meaning of every command: one arm for each row of the opcode table, each one call of
that row's own meaning.
-/

namespace Sys2Proof.Machine

def exec (i : Instr) (s : State) : Host.Outcome State Fault Refusal :=
  match i with
  | .posMap args => Sys2Proof.Machine.execPosMap args s
  | .posOpen args => Sys2Proof.Machine.execPosOpen args s
  | .posClose args => Sys2Proof.Machine.execPosClose args s
  | .posHold args => Sys2Proof.Machine.execPosHold args s
  | .posMute args => Sys2Proof.Machine.execPosMute args s
  | .posVolumeAbsolute args => Sys2Proof.Machine.execPosVolumeAbsolute args s
  | .posVolumeStepUp args => Sys2Proof.Machine.execPosVolumeStepUp args s
  | .posVolumeStepDown args => Sys2Proof.Machine.execPosVolumeStepDown args s
  | .posSet args => Sys2Proof.Machine.execPosSet args s
  | .posQuery args => Sys2Proof.Machine.execPosQuery args s
  | .posTail args => Sys2Proof.Machine.execPosTail args s
  | .ecControlFreeze args => Sys2Proof.Machine.execEcControlFreeze args s
  | .ecControlThaw args => Sys2Proof.Machine.execEcControlThaw args s
  | .ecControlReset args => Sys2Proof.Machine.execEcControlReset args s
  | .ecReport args => Sys2Proof.Machine.execEcReport args s
  | .profileWrite args => Sys2Proof.Machine.execProfileWrite args s
  | .profileRead args => Sys2Proof.Machine.execProfileRead args s
  | .routePut args => Sys2Proof.Machine.execRoutePut args s
  | .routeDrop args => Sys2Proof.Machine.execRouteDrop args s
  | .routeRevert args => Sys2Proof.Machine.execRouteRevert args s
  | .routeCommit args => Sys2Proof.Machine.execRouteCommit args s
  | .routeCommitApply => Sys2Proof.Machine.execRouteCommitApply s
  | .routeList args => Sys2Proof.Machine.execRouteList args s
  | .progSet args => Sys2Proof.Machine.execProgSet args s
  | .fallbackSet args => Sys2Proof.Machine.execFallbackSet args s
  | .progQuery args => Sys2Proof.Machine.execProgQuery args s
  | .clipBegin args => Sys2Proof.Machine.execClipBegin args s
  | .clipData args => Sys2Proof.Machine.execClipData args s
  | .clipCancel args => Sys2Proof.Machine.execClipCancel args s
  | .clipDelete args => Sys2Proof.Machine.execClipDelete args s
  | .clipQuery args => Sys2Proof.Machine.execClipQuery args s
  | .promptPlay args => Sys2Proof.Machine.execPromptPlay args s
  | .promptPlayUrgent args => Sys2Proof.Machine.execPromptPlayUrgent args s
  | .promptStopNow args => Sys2Proof.Machine.execPromptStopNow args s
  | .promptStopAfterPass args => Sys2Proof.Machine.execPromptStopAfterPass args s
  | .promptStopFlush args => Sys2Proof.Machine.execPromptStopFlush args s
  | .promptQuery args => Sys2Proof.Machine.execPromptQuery args s
  | .shockSet args => Sys2Proof.Machine.execShockSet args s
  | .shockClear args => Sys2Proof.Machine.execShockClear args s
  | .shockQuery args => Sys2Proof.Machine.execShockQuery args s
  | .keymapSet args => Sys2Proof.Machine.execKeymapSet args s
  | .linkArm args => Sys2Proof.Machine.execLinkArm args s
  | .resume args => Sys2Proof.Machine.execResume args s
  | .devQuery args => Sys2Proof.Machine.execDevQuery args s
  | .devReset args => Sys2Proof.Machine.execDevReset args s
  | .devResetPerform => Sys2Proof.Machine.execDevResetPerform s
  | .unknownKind kind args => Sys2Proof.Machine.execUnknownKind kind args s
  | .pinReset => Sys2Proof.Machine.execPinReset s
  | .frame inp => Sys2Proof.Machine.execFrame inp s
  | .hangoverExpire p inp => Sys2Proof.Machine.execHangoverExpire p inp s
  | .promptPassComplete p inp => Sys2Proof.Machine.execPromptPassComplete p inp s
  | .shockOn p inp => Sys2Proof.Machine.execShockOn p inp s
  | .shockOff p inp => Sys2Proof.Machine.execShockOff p inp s
  | .messageSent inp => Sys2Proof.Machine.execMessageSent inp s
  | .holdLeaveComplete p inp => Sys2Proof.Machine.execHoldLeaveComplete p inp s
  | .positionTurn p => Sys2Proof.Machine.execPositionTurn p s
  | .openingExit p => Sys2Proof.Machine.execOpeningExit p s
  | .closingEntry p => Sys2Proof.Machine.execClosingEntry p s
  | .teardown p => Sys2Proof.Machine.execTeardown p s
  | .tailChangeApply p => Sys2Proof.Machine.execTailChangeApply p s
  | .ecConverged p => Sys2Proof.Machine.execEcConverged p s
  | .ecDiverged p => Sys2Proof.Machine.execEcDiverged p s
  | .shockHoldExpire p => Sys2Proof.Machine.execShockHoldExpire p s
  | .cycleStart => Sys2Proof.Machine.execCycleStart s
  | .progSilent k => Sys2Proof.Machine.execProgSilent k s
  | .profilePendingApply => Sys2Proof.Machine.execProfilePendingApply s
  | .tlinkMarker word => Sys2Proof.Machine.execTlinkMarker word s
  | .tlinkLostExpire => Sys2Proof.Machine.execTlinkLostExpire s
  | .mgmtSymbol tag data => Sys2Proof.Machine.execMgmtSymbol tag data s
  | .gapTimeout => Sys2Proof.Machine.execGapTimeout s
  | .mgmtBreak => Sys2Proof.Machine.execMgmtBreak s
  | .statusWordArrival word => Sys2Proof.Machine.execStatusWordArrival word s
  | .keyEdge key word => Sys2Proof.Machine.execKeyEdge key word s
  | .presenceEdge word => Sys2Proof.Machine.execPresenceEdge word s
  | .hlinkQuietWindow d => Sys2Proof.Machine.execHlinkQuietWindow d s
  | .syncPatternFound n => Sys2Proof.Machine.execSyncPatternFound n s
  | .resetNAssert => Sys2Proof.Machine.execResetNAssert s

end Sys2Proof.Machine
end

