-- ==== Sys2Proof/Machine/Step.lean ====
section
/-!
DEFINITION. One step of the part: the command at the front of the queue is run with the queue's rest.
-/

namespace Sys2Proof.Machine

/-- The state with the front command removed from its queue. -/
def State.withRest (s : State) (rest : List Instr) : State := { s with pending := rest }

/-- One step. With no command waiting the part idles (DESIGN CHOICE, safe: notes/assumptions/5.md). -/
def step (s : State) : Host.Outcome State Fault Refusal :=
  match s.pending with
  | [] => .next s
  | c :: rest => exec c (s.withRest rest)

/-- The command that a table word spells, put at the front of the queue. No word spells one
(`decodeTableWord`), so the state stands as it is. -/
def State.withFetchWord (s : State) (nbits w : Nat) : State :=
  match decodeTableWord nbits w with
  | none => s
  | some c => { s with pending := c :: s.pending }

end Sys2Proof.Machine
end

