-- ==== Sys2Proof/Safety.lean ====
section
/-!
DEFINITION. The terms in which claims about the part are made: when the part takes a message at once,
what a reply leaves behind, when a frame has no work before its computation, and the laws of the
device that the manual names.
-/

namespace Sys2Proof.Machine

/-! ## Taking a message at once (R160, R162) -/

/-- The part takes a message at once and its reply stays: RESET_N is high, the command unit is ready
and has taken nothing in the frame, no message waits, the receiver is READY, the reply buffer has room
and the T-link is UP. -/
def State.accepts (s : State) : Bool :=
  !s.resetLow && decide (s.cmdUnit = .ready) && s.flags.taken.isNone && s.inputQueue.isEmpty &&
    !s.receiver.overrun && decide (s.replies.length < Config.replyLimit) && decide (s.tlink.state = .up)

/-- What a taken message leaves around its effect: the unit has taken a message in this frame, and the
reply stands at the tail of the reply buffer (R162, R163). -/
def State.said (s : State) (kind : Byte) (code : ReplyCode) (results : List Word) : State :=
  { s.busy kind with
    replies := s.replies ++ [{ kind := kind, code := code, results := results }]
    flags := { (s.busy kind).flags with newReplies := s.flags.newReplies + 1 } }

/-- The message that a message row stands for, with the mode word that the row's name fixes in its place;
none for a row that is no message (section 12.4). -/
def messageOf : Instr → Option Message
  | .posMap a => some { kind := 0x01, body := a }
  | .posOpen a => some { kind := 0x02, body := a }
  | .posClose a => some { kind := 0x03, body := a }
  | .posHold a => some { kind := 0x04, body := a }
  | .posMute a => some { kind := 0x05, body := a }
  | .posVolumeAbsolute a => some { kind := 0x06, body := withMode 0 a }
  | .posVolumeStepUp a => some { kind := 0x06, body := withMode 1 a }
  | .posVolumeStepDown a => some { kind := 0x06, body := withMode 2 a }
  | .posSet a => some { kind := 0x07, body := a }
  | .posQuery a => some { kind := 0x08, body := a }
  | .posTail a => some { kind := 0x09, body := a }
  | .ecControlFreeze a => some { kind := 0x10, body := withMode 0 a }
  | .ecControlThaw a => some { kind := 0x10, body := withMode 1 a }
  | .ecControlReset a => some { kind := 0x10, body := withMode 2 a }
  | .ecReport a => some { kind := 0x11, body := a }
  | .profileWrite a => some { kind := 0x18, body := a }
  | .profileRead a => some { kind := 0x19, body := a }
  | .routePut a => some { kind := 0x20, body := a }
  | .routeDrop a => some { kind := 0x21, body := a }
  | .routeRevert a => some { kind := 0x22, body := a }
  | .routeCommit a => some { kind := 0x23, body := a }
  | .routeList a => some { kind := 0x24, body := a }
  | .progSet a => some { kind := 0x28, body := a }
  | .fallbackSet a => some { kind := 0x29, body := a }
  | .progQuery a => some { kind := 0x2A, body := a }
  | .clipBegin a => some { kind := 0x30, body := a }
  | .clipData a => some { kind := 0x31, body := a }
  | .clipCancel a => some { kind := 0x32, body := a }
  | .clipDelete a => some { kind := 0x33, body := a }
  | .clipQuery a => some { kind := 0x34, body := a }
  | .promptPlay a => some { kind := 0x38, body := a ++ [0] }
  | .promptPlayUrgent a => some { kind := 0x38, body := a ++ [1] }
  | .promptStopNow a => some { kind := 0x39, body := withMode 0 a }
  | .promptStopAfterPass a => some { kind := 0x39, body := withMode 1 a }
  | .promptStopFlush a => some { kind := 0x39, body := withMode 2 a }
  | .promptQuery a => some { kind := 0x3A, body := a }
  | .shockSet a => some { kind := 0x40, body := a }
  | .shockClear a => some { kind := 0x41, body := a }
  | .shockQuery a => some { kind := 0x42, body := a }
  | .keymapSet a => some { kind := 0x48, body := a }
  | .linkArm a => some { kind := 0x50, body := a }
  | .resume a => some { kind := 0x51, body := a }
  | .devQuery a => some { kind := 0x52, body := a }
  | .devReset a => some { kind := 0x53, body := a }
  | .unknownKind kind a => if (commandOf kind).isSome then none else some { kind := kind, body := a }
  | .routeCommitApply | .devResetPerform | .pinReset | .cycleStart | .profilePendingApply
  | .tlinkLostExpire | .gapTimeout | .mgmtBreak | .resetNAssert => none
  | .frame _ | .messageSent _ => none
  | .hangoverExpire _ _ | .promptPassComplete _ _ | .shockOn _ _ | .shockOff _ _
  | .holdLeaveComplete _ _ => none
  | .positionTurn _ | .openingExit _ | .closingEntry _ | .teardown _ | .tailChangeApply _
  | .ecConverged _ | .ecDiverged _ | .shockHoldExpire _ => none
  | .progSilent _ => none
  | .tlinkMarker _ | .statusWordArrival _ | .presenceEdge _ => none
  | .mgmtSymbol _ _ | .keyEdge _ _ => none
  | .hlinkQuietWindow _ | .syncPatternFound _ => none

/-- The codes of R163 that refuse. -/
def ReplyCode.refuses : ReplyCode → Bool
  | .done => false
  | .doneClamped => false
  | .doneShort => false
  | _ => true

/-- The one body length of a command (section 12.4). CLIP_DATA has a range of lengths and no one
length. -/
def bodyLength (kind : Byte) : Option Nat :=
  [(0x01, 3), (0x02, 2), (0x03, 1), (0x04, 2), (0x05, 2), (0x06, 3), (0x07, 3), (0x08, 1), (0x09, 2),
   (0x10, 2), (0x11, 1), (0x18, 16), (0x19, 2), (0x20, 5), (0x21, 4), (0x22, 0), (0x23, 0), (0x24, 1),
   (0x28, 3), (0x29, 1), (0x2A, 0), (0x30, 3), (0x32, 1), (0x33, 1), (0x34, 1), (0x38, 7), (0x39, 2),
   (0x3A, 1), (0x40, 8), (0x41, 1), (0x42, 1), (0x48, 4), (0x50, 0), (0x51, 0), (0x52, 0),
   (0x53, 0)].lookup kind

/-- A numeric parameter of POS_SET: its identifier, its range and how it is stored (R21). -/
structure NumericParam where
  ident : Nat
  lo : Nat
  hi : Nat
  put : Params → Nat → Params

/-- The numeric parameters of R21, in its row order. -/
def numericParams : List NumericParam :=
  [{ ident := 0, lo := 0, hi := 2048, put := fun q v => { q with sidetone := v } },
   { ident := 2, lo := 0, hi := 8192, put := fun q v => { q with holdGain := v } },
   { ident := 4, lo := 0, hi := 255, put := fun q v => { q with stepM := v } },
   { ident := 5, lo := 1, hi := 65535, put := fun q v => { q with regR := v } },
   { ident := 6, lo := 0, hi := 4096, put := fun q v => { q with dtRatio := v } },
   { ident := 7, lo := 0, hi := 4095, put := fun q v => { q with hangoverFrames := v } },
   { ident := 8, lo := 0, hi := 15, put := fun q v => { q with convBand := v } }]

/-! ## Runs, turns and frames -/

/-- The commands run one after another, up to the first that does not answer a next state. -/
def runAll : List Instr → State → Host.Outcome State Fault Refusal
  | [], s => .next s
  | c :: cs, s =>
    match exec c s with
    | .next t => runAll cs t
    | .fault f => .fault f
    | .refused r => .refused r

/-- The turn of p has all it needs: it is due, and at frame 0 the profile copies are applied (R73). -/
def State.turnReady (s : State) (p : Position) : Bool :=
  s.turnDue p && (decide (s.timer.number ≠ 0) || s.flags.profilesDone)

/-- The frame in progress has no work left before its computation: RESET_N is high, the computation
has not been made, the trunk is not LOST, no reset is due, no message and no status word waits, the
frame's turn has come, and at frame 0 the cycle start is done. -/
def State.settled (s : State) : Bool :=
  !s.resetLow && !s.flags.computed && decide (s.tlink.state ≠ .lost) && decide (s.cmdUnit ≠ .heldResetDue) &&
    s.inputQueue.isEmpty && s.flags.turnDone && s.flags.heldWords.isEmpty &&
    (decide (s.timer.number ≠ 0) || (s.flags.monitorDone && s.flags.profilesDone && s.flags.commitDone))

/-- Nothing stands at the start of the frame before its first message: RESET_N is high, the computation
has not been made, LOST has not ended, no reset is due and no status word waits for the quiet window. -/
def State.begun (s : State) : Bool :=
  !s.resetLow && !s.flags.computed && !(decide (s.tlink.state = .lost) && s.flags.lostEnded) &&
    decide (s.cmdUnit ≠ .heldResetDue) && s.flags.heldWords.isEmpty

/-- The cycle start of a frame numbered 0 is done. -/
def State.cycleDone (s : State) : Bool :=
  decide (s.timer.number ≠ 0) || (s.flags.monitorDone && s.flags.profilesDone && s.flags.commitDone)

/-- The H-link frame driven with another indicator word. -/
def State.showing (s : State) (w : Word) : State :=
  { s with outputs := { s.outputs with hFrame := s.outputs.hFrame.map fun f => { f with indicator := w } } }

/-- FRAME of s ends in the state in which FRAME of t ends, but for the indicator word where the order says
that it is formed before the work of FRAME (R144): that of s. -/
def State.framesAs (s t : State) (inp : FrameInputs) : Prop :=
  ∃ u, exec (.frame inp) t = .next u ∧
    exec (.frame inp) s = .next
      (if inp.order.indicator = .beforeWork then u.showing s.indicatorWord else u)

/-! ## The samples of a frame, as the rules give them -/

/-- u_q of a frame that takes s to t (R68, R69, R76): the gain and the mute gate weight are those after the
frame's step. -/
def State.uplinkIn (s t : State) (inp : FrameInputs) (q : Position) : Int :=
  let mic := s.micSample inp (s.posn q)
  let y := if (s.profiles[(s.posn q).inForce.params.nsProfile.val]).bypass then mic
    else satSample (roundDiv (mic * (t.posn q).ns.gain) 4096)
  if (s.posn q).record.stored = .closed then 0 else roundDiv (y * (t.posn q).record.wm) 32

/-- e_q of a frame that takes s to t (R36, R39, R40): the coefficients are those before the frame's update,
the reference samples those of the frame. -/
def State.residualIn (s t : State) (inp : FrameInputs) (q : Position) : Int :=
  let d := s.returnSample inp (s.posn q)
  let products := (tapCoefs (s.posn q).taps.elems).zip (t.posn q).ec.hist
  let y := satSample (roundDiv ((products.map fun z => z.1.toInt * z.2.toInt).sum) 32768)
  if s.tlink.state ≠ .up then 0
  else if (s.posn q).ec.state = .converging ∨ (s.posn q).ec.state = .converged then satSample (d - y)
  else d

/-- The sum of the routes into one destination (R91, R92): the source samples times the gains. -/
def State.routedIn (s t : State) (inp : FrameInputs) (k : DestKind) (b : Position) : Int :=
  ((s.latch.routes.filter fun r => r.pair.dstKind = k ∧ r.pair.dst = b).map fun r =>
    (match r.pair.srcKind with
      | .uplink => s.uplinkIn t inp r.pair.src
      | .residual => s.residualIn t inp r.pair.src) * (r.gain : Int)).sum

/-- The same parts outside the positions: routes, clips, programmes, keys, links, the management path
other than the flags of the frame. -/
def State.sameShared (s t : State) : Prop :=
  t.profiles = s.profiles ∧ t.pendingProfiles = s.pendingProfiles ∧ t.routes = s.routes ∧
  t.progs = s.progs ∧ t.fallback = s.fallback ∧ t.store = s.store ∧ t.debouncers = s.debouncers ∧
  t.keymap = s.keymap ∧ t.timer = s.timer ∧ t.tlink = s.tlink ∧ t.hlink = s.hlink ∧
  t.receiver = s.receiver ∧ t.inputQueue = s.inputQueue ∧ t.cmdUnit = s.cmdUnit ∧
  t.replies = s.replies ∧ t.arbiter = s.arbiter ∧ t.outputs = s.outputs ∧ t.latch = s.latch ∧
  t.resetLow = s.resetLow ∧ t.pending = s.pending

/-- Every position but p stands as it is. -/
def State.sameOthers (s t : State) (p : Position) : Prop := ∀ q : Position, q ≠ p → t.posn q = s.posn q

/-! ## The laws of the device -/

/-- Every gate weight and every duck weight lies in 0 to 32 (R3). -/
def State.weightsLaw (s : State) : Prop :=
  ∀ p : Position, (s.posn p).record.wo ≤ 32 ∧ (s.posn p).record.h ≤ 32 ∧ (s.posn p).record.wm ≤ 32 ∧
    (s.posn p).player.wd ≤ 32

/-- Two values of a weight differ by at most 1. -/
def within1 (a b : Nat) : Prop := a ≤ b + 1 ∧ b ≤ a + 1

/-- A position's weights moved by at most 1 each (R3). -/
def weightsWithin1 (x y : PosState) : Prop :=
  within1 x.record.wo y.record.wo ∧ within1 x.record.h y.record.h ∧ within1 x.record.wm y.record.wm ∧
    within1 x.player.wd y.player.wd

/-- The indices of the blocks on a position's list. -/
def PosState.blocks (x : PosState) : List BlockIndex := x.taps.elems.map fun e => e.block.index

/-- Every block index of the part: the free list, then the lists of positions 0 to 31. -/
def State.allBlocks (s : State) : List BlockIndex :=
  s.freeTaps.map (fun b => b.index) ++ (List.finRange 32).flatMap fun p => (s.posn p).blocks

/-- All attached elements stand before all reserved elements (R26). -/
def attachedFirst (l : List TapElem) : Prop := l.Pairwise fun a b => b.attached = true → a.attached = true

/-- The laws of R25 and R26: each block index 0 to 255 appears in exactly one list; a list holds at
most 16 elements, attached before reserved; reserved elements exist only with a grow pending; a CLOSED
position's list is empty and has no change pending. Every block has 64 coefficients (R24) and every
reference history 1024 samples (R35). -/
def State.tapLaw (s : State) : Prop :=
  s.allBlocks.Nodup ∧ s.allBlocks.length = 256 ∧
  (∀ p : Position,
    (s.posn p).taps.elems.length ≤ Config.tailLimit ∧ attachedFirst (s.posn p).taps.elems ∧
    ((s.posn p).taps.change ≠ some .grow → ∀ e ∈ (s.posn p).taps.elems, e.attached = true) ∧
    ((s.posn p).record.stored = .closed → (s.posn p).taps.elems = [] ∧ (s.posn p).taps.change = none)) ∧
  (∀ b ∈ s.freeTaps, b.coefs.length = Config.blockTaps) ∧
  ∀ p : Position, (∀ e ∈ (s.posn p).taps.elems, e.block.coefs.length = Config.blockTaps) ∧
    (s.posn p).ec.hist.length = Config.historyLength

/-- Each H-slot and each T-slot is held by at most one position (R14, R148). -/
def State.slotLaw (s : State) : Prop :=
  ∀ p q : Position, p ≠ q →
    ((s.posn p).record.hSlot ≠ none → (s.posn p).record.hSlot ≠ (s.posn q).record.hSlot) ∧
    ((s.posn p).record.tSlot ≠ none → (s.posn p).record.tSlot ≠ (s.posn q).record.tSlot)

/-- The law of R81 and R82 for one table. -/
def State.tableLaw (s : State) (t : List Route) : Prop :=
  t.length ≤ Config.routeLimit ∧ (t.map fun x => x.pair).Nodup ∧
  (∀ (k : DestKind) (b : Position), routesInto t k b ≤ Config.routesPerEnd) ∧
  ∀ x ∈ t, forbiddenPair x.pair = false ∧ (s.posn x.pair.src).record.stored ≠ .closed ∧
    (s.posn x.pair.dst).record.stored ≠ .closed

/-- The route tables' law (R81, R82). No route that the frame in progress uses is one that R82 forbids. -/
def State.routeLaw (s : State) : Prop :=
  s.tableLaw s.routes.active ∧ s.tableLaw s.routes.shadow ∧
  ∀ x ∈ s.latch.routes, forbiddenPair x.pair = false

/-- The prompt entries of a position that name a clip. -/
def PosState.promptUses (x : PosState) (c : ClipId) : Nat :=
  (x.player.queue.filter fun e => e.clip = c).length

/-- The references to a clip: prompt entries, hold sources, the fallback (R113). -/
def State.clipUses (s : State) (c : ClipId) : Nat :=
  ((List.finRange 32).map fun p =>
    (s.posn p).promptUses c + bit ((s.posn p).record.params.holdSource = .clip c)).sum +
  bit (s.fallback = some c)

/-- The use-count law of R113, with what it rests on: an EMPTY or LOADING clip has no use, a CLOSED
position holds none, and a player is IDLE exactly when its queue is empty. -/
def State.useLaw (s : State) : Prop :=
  (∀ c : ClipId, (s.store.clip c).uses = s.clipUses c ∧
    ((s.store.clip c).state = .empty ∨ (s.store.clip c).state = .loading → (s.store.clip c).uses = 0)) ∧
  ∀ p : Position,
    ((s.posn p).record.stored = .closed →
      (s.posn p).player.queue = [] ∧ ∃ k, (s.posn p).record.params.holdSource = .prog k) ∧
    ((s.posn p).player.state = .idle ↔ (s.posn p).player.queue = [])

/-- An address lies in a run of words. -/
def covers (start length a : Nat) : Bool := decide (start ≤ a) && decide (a < start + length)

/-- How many free extents and clips that are not EMPTY hold a word. -/
def ClipStore.owners (st : ClipStore) (a : Nat) : Nat :=
  (st.free.filter fun x => covers x.start x.length a).length +
  ((List.finRange 64).filter fun c =>
    decide ((st.clip c).state ≠ .empty) && covers (st.clip c).start (st.clip c).length a).length

/-- The free extents stand in address order, none empty, and no two overlap or touch (R108). -/
def extentsApart : List Extent → Prop
  | [] => True
  | [x] => 0 < x.length
  | x :: y :: rest => 0 < x.length ∧ x.start + x.length < y.start ∧ extentsApart (y :: rest)

/-- The law of R108: every word of memory has exactly one owner and no extent goes beyond the memory;
an EMPTY record is all 0, any other has a length; at most one clip is LOADING. -/
def State.storeLaw (s : State) : Prop :=
  extentsApart s.store.free ∧
  (∀ a : Nat, s.store.owners a = if a < Config.clipWords then 1 else 0) ∧
  (∀ c : ClipId, ((s.store.clip c).state = .empty → s.store.clip c = Clip.empty) ∧
    ((s.store.clip c).state ≠ .empty → 0 < (s.store.clip c).length) ∧
    (s.store.clip c).fill ≤ (s.store.clip c).length) ∧
  ∀ c d : ClipId, (s.store.clip c).state = .loading → (s.store.clip d).state = .loading → c = d

/-- ALIGNED exactly while the T-link is UP (R146), and LINK in every freeze set exactly while it is
not (R47). -/
def State.linkLaw (s : State) : Prop :=
  (s.timer.aligned = true ↔ s.tlink.state = .up) ∧
  ∀ p : Position, ((s.posn p).ec.freeze.link = true ↔ s.tlink.state ≠ .up)

/-- The lists of the management path and of the key scanner and the players stay within their
capacities (R10, R118, R160, R164), and a pending commit leaves room for its reply (R162). -/
def State.queueLaw (s : State) : Prop :=
  s.inputQueue.length ≤ Config.inputLimit ∧ s.replies.length ≤ Config.replyLimit ∧
  s.events.length ≤ Config.eventLimit ∧
  (s.routes.commitPending = true ↔ s.cmdUnit = .heldCommit) ∧
  (s.cmdUnit = .heldCommit → s.replies.length < Config.replyLimit) ∧
  ∀ p : Position, (s.posn p).record.keys.length ≤ Config.keyActionLimit ∧
    (s.posn p).player.queue.length ≤ Config.promptLimit

/-- The law of R133 for the shock gain: in LIMITING and LATCHED it is the limit gain. In NORMAL it is
4096 (R128, R132), and the stored parameters lie in their ranges (R128). -/
def State.shockLaw (s : State) : Prop :=
  ∀ p : Position,
    let k := (s.posn p).shock
    (k.state = .limiting ∨ k.state = .latched → k.sg = k.limitGain) ∧ (k.state = .normal → k.sg = 4096) ∧
    k.limitGain ≤ 4096 ∧ k.sg ≤ 4096 ∧ k.ceiling ≤ 32767

end Sys2Proof.Machine
end

