-- ==== Sys2Proof/WellFormed.lean ====
section
/-!
DEFINITION. Which commands are well formed.

A message body holds at most 16 words (R156), and a message row carries its body less the mode word
that the row's name fixes. UNKNOWN_KIND carries a kind that is no command of the part (R162). A
SYNC_PATTERN_FOUND or a marker needs no check: every word is a possible marker word. An ill-formed
message body is not a message that the receiver could have assembled; `exec` still gives it the
meaning of a body of the wrong length.
-/

namespace Sys2Proof

/-- The kinds of the commands of the part (section 12.4, R162). -/
def commandKinds : List Byte :=
  [0x01, 0x02, 0x03, 0x04, 0x05, 0x06, 0x07, 0x08, 0x09, 0x10, 0x11, 0x18, 0x19, 0x20, 0x21, 0x22,
   0x23, 0x24, 0x28, 0x29, 0x2A] ++
  [0x30, 0x31, 0x32, 0x33, 0x34, 0x38, 0x39, 0x3A, 0x40, 0x41, 0x42, 0x48, 0x50, 0x51, 0x52, 0x53]

/-- A body of at most 16 words, `fixed` of which the row itself supplies. -/
def bodyFits (fixed : Nat) (args : List Word) : Bool := decide (args.length + fixed ≤ 16)

/-- The well-formed commands. -/
def Instr.wellFormed : Instr → Bool
  | .posMap a | .posOpen a | .posClose a | .posHold a | .posMute a | .posSet a | .posQuery a
  | .posTail a | .ecReport a | .profileWrite a | .profileRead a | .routePut a | .routeDrop a
  | .routeRevert a | .routeCommit a | .routeList a | .progSet a | .fallbackSet a | .progQuery a
  | .clipBegin a | .clipData a | .clipCancel a | .clipDelete a | .clipQuery a | .promptQuery a
  | .shockSet a | .shockClear a | .shockQuery a | .keymapSet a | .linkArm a | .resume a
  | .devQuery a | .devReset a => bodyFits 0 a
  | .posVolumeAbsolute a | .posVolumeStepUp a | .posVolumeStepDown a
  | .ecControlFreeze a | .ecControlThaw a | .ecControlReset a
  | .promptPlay a | .promptPlayUrgent a
  | .promptStopNow a | .promptStopAfterPass a | .promptStopFlush a => bodyFits 1 a
  | .unknownKind kind a => bodyFits 0 a && !(commandKinds.contains kind)
  | .routeCommitApply | .devResetPerform | .pinReset | .cycleStart | .profilePendingApply
  | .tlinkLostExpire | .gapTimeout | .mgmtBreak | .resetNAssert => true
  | .frame _ | .messageSent _ => true
  | .hangoverExpire _ _ | .promptPassComplete _ _ | .shockOn _ _ | .shockOff _ _
  | .holdLeaveComplete _ _ => true
  | .positionTurn _ | .openingExit _ | .closingEntry _ | .teardown _ | .tailChangeApply _
  | .ecConverged _ | .ecDiverged _ | .shockHoldExpire _ => true
  | .progSilent _ => true
  | .tlinkMarker _ | .statusWordArrival _ | .presenceEdge _ => true
  | .mgmtSymbol _ _ | .keyEdge _ _ => true
  | .hlinkQuietWindow _ | .syncPatternFound _ => true

end Sys2Proof
end

