-- ==== Sys2Proof/Certificates/Slice0/Obligations.lean ====
section
/-!
DEFINITION. The statements for the provers. Each docstring names the rule of the manual it formalises,
or the log entry on which a clause rests.
-/

open Sys2Proof Sys2Proof.Machine

/-! ## The step and the queue -/

/-- A step runs the command at the front of the queue on the state with the queue's rest. The queue of
waiting commands is the model's own choice (notes/assumptions/8.md); it is not the input queue of R162. -/
def Obligations.StepRunsFrontCommand : Prop :=
  ∀ (c : Instr) (rest : List Instr) (s : State), s.pending = c :: rest →
    step s = exec c { s with pending := rest }

/-- Every command answers a next state, and none touches the queue of waiting commands. That the part has
no fault is the model's reading of R163 (notes/assumptions/26.md), and the queue is the model's own choice
(notes/assumptions/8.md). -/
def Obligations.EveryCommandAnswersNext : Prop :=
  ∀ (i : Instr) (s : State), ∃ t, exec i s = .next t ∧ t.pending = s.pending

/-- R155: while RESET_N is low the part takes nothing. That its state stands still is the model's
reading (notes/assumptions/19.md). -/
def Obligations.ResetLowFreezesThePart : Prop :=
  ∀ (i : Instr) (s : State), s.resetLow = true → i ≠ .pinReset → i ≠ .resetNAssert →
    exec i s = .next s

/-- R155, R167, R107: the pin going low and its release. DEV_RESET places DONE and holds the unit; when
its reply is gone the reset is due in the next frame, and puts every block at its reset values but for
the words of clip memory. That the rest of the state stands while the pin is low is the model's choice
(notes/assumptions/19.md), the values that the manual does not give for reset are those of
notes/assumptions/10.md, and the waiting commands and the number of frames cut short, which a reset keeps,
are the model's own (notes/assumptions/8.md and 13.md). -/
def Obligations.ResetsPutEveryBlockAtReset : Prop :=
  ∀ s : State,
    exec .pinReset s = .next { State.reset with pending := s.pending, cuts := s.cuts } ∧
    exec .resetNAssert s =
      .next { s with resetLow := true, outputs := { s.outputs with tFrame := none, hFrame := none } } ∧
    (s.accepts = true →
      exec (.devReset []) s = .next ({ s with cmdUnit := .heldReset }.said 0x53 .done [])) ∧
    (s.cmdUnit = .heldReset → s.replies = [] → s.noteReplyGone.endFrame.cmdUnit = .heldResetDue) ∧
    (s.cmdUnit = .heldReset → s.flushReplies.endFrame.cmdUnit = .heldResetDue) ∧
    (s.resetLow = false → s.cmdUnit = .heldResetDue →
      exec .devResetPerform s = .next
        { State.reset with
          store := { State.reset.store with mem := s.store.mem }, pending := s.pending
          cuts := s.cuts })

/-! ## The command unit (R160 to R164) -/

/-- R163, R169: a refused command changes nothing, and its reply carries word 0 alone but for the two
exceptions of R169. -/
def Obligations.RefusedCommandsChangeNothing : Prop :=
  ∀ (kind : Byte) (f : List Word → State → Answer) (body : List Word) (s : State) (code : ReplyCode)
    (results : List Word),
    commandOf kind = some f → (f body s).reply = some (code, results) → code.refuses = true →
    (f body s).state = s ∧
      (results = [] ∨ (kind = 0x01 ∧ code = .refusedBusy ∧ results.length = 1) ∨
        (kind = 0x30 ∧ code = .refusedRoom ∧ results.length = 4))

/-- R162, R13: the checks that come first: a kind that is no command of the part is refused with
REFUSED_KIND, the reply and event kinds among them, a body of another length than the command's with
REFUSED_LENGTH (of CLIP_DATA, a body of no word, of a clip alone, or of more than 16 words, R110), and then
a position word above 31 or a clip word above 63 with REFUSED_RANGE (R109, R111, R114, R115 of the clip
commands, R119, R124, R126 of the prompt commands). -/
def Obligations.KindLengthAndNumbersAreCheckedFirst : Prop :=
  (∀ (kind : Byte) (args : List Word) (s : State), s.accepts = true → kind ∉ commandKinds →
    exec (.unknownKind kind args) s = .next (s.said kind .refusedKind [])) ∧
  commandOf 0x80 = none ∧ commandOf 0x81 = none ∧
  (∀ (kind : Byte) (n : Nat) (body : List Word) (s : State),
    bodyLength kind = some n → body.length ≠ n →
    ∃ f, commandOf kind = some f ∧ f body s = refused s .refusedLength) ∧
  (∀ (args : List Word) (s : State), s.accepts = true → args.length < 2 ∨ 16 < args.length →
    exec (.clipData args) s = .next (s.said 0x31 .refusedLength [])) ∧
  (∀ (kind : Byte) (w : Word) (rest : List Word) (s : State),
    bodyLength kind = some (rest.length + 1) →
    kind ∈ ([0x01, 0x02, 0x03, 0x04, 0x05, 0x06, 0x07, 0x08, 0x09, 0x10, 0x11] : List Byte) ∧ 32 ≤ w.toNat ∨
    kind ∈ ([0x38, 0x39, 0x3A, 0x40, 0x41, 0x42] : List Byte) ∧ 32 ≤ w.toNat ∨
    kind ∈ ([0x30, 0x32, 0x33, 0x34] : List Byte) ∧ 64 ≤ w.toNat →
    ∃ f, commandOf kind = some f ∧ f (w :: rest) s = refused s .refusedRange)

/-- R160, row by row: where a completed message goes. R162: a message row is its message, placed; it is
taken at once where no message waits and the unit can take it (that a whole message is one command is the
model's choice, notes/assumptions/1.md), and otherwise it waits in the input queue. The unit takes the head
of the queue exactly when it is ready, holds fewer than 2 replies and has taken nothing in the frame. R164:
an event goes to the tail of the queue, or is discarded and counted with 64 in it; a reply goes to the tail
of the buffer, or is discarded while the T-link is not UP. -/
def Obligations.ManagementListsAreFilled : Prop :=
  (∀ (s : State) (m : Message), s.inputQueue.length ≤ Config.inputLimit →
    (s.receiver.overrun = false → s.inputQueue.length < 4 →
      s.placeMessage m = { s with inputQueue := s.inputQueue ++ [m] }) ∧
    (s.receiver.overrun = false → s.inputQueue.length = 4 →
      s.placeMessage m =
        { s with receiver := { s.receiver with
            discards := min 65535 (s.receiver.discards + 1), overrun := true } }.raise (.overrun m.kind)) ∧
    (s.receiver.overrun = true → s.inputQueue.length < 4 → m.kind = 0x51 →
      s.placeMessage m =
        { s with
          inputQueue := s.inputQueue ++ [m], receiver := { s.receiver with overrun := false } }) ∧
    (s.receiver.overrun = true → s.inputQueue.length = 4 ∨ m.kind ≠ 0x51 →
      s.placeMessage m =
        { s with receiver := { s.receiver with discards := min 65535 (s.receiver.discards + 1) } })) ∧
  (∀ (c : Instr) (m : Message) (s : State), messageOf c = some m → s.resetLow = false →
    (s.inputQueue ≠ [] ∨ s.cmdUnit ≠ .ready ∨ 2 ≤ s.replies.length ∨ s.flags.taken ≠ none →
      exec c s = .next (s.placeMessage m)) ∧
    (s.inputQueue = [] → exec c s = .next (s.placeMessage m).takeHead)) ∧
  (∀ (s : State) (m : Message) (rest : List Message), s.inputQueue = m :: rest →
    (s.cmdUnit = .ready → s.replies.length < 2 → s.flags.taken = none →
      s.takeHead =
        (let u := { s with inputQueue := rest }.busy m.kind
         match commandOf m.kind with
          | none => settle m.kind (refused u .refusedKind)
          | some f => settle m.kind (f m.body u))) ∧
    (s.cmdUnit ≠ .ready ∨ 2 ≤ s.replies.length ∨ s.flags.taken ≠ none → s.takeHead = s)) ∧
  (∀ (s : State) (b : EventBlock) (w : Option EventBlock) (e : Event), s.events.length < 64 →
    (s.raiseIn b w e).events = s.events ++ [e] ∧ (s.raiseIn b w e).eventsLost = s.eventsLost) ∧
  (∀ (s : State) (b : EventBlock) (w : Option EventBlock) (e : Event), 64 ≤ s.events.length →
    (s.raiseIn b w e).events = s.events ∧ (s.raiseIn b w e).eventsLost = min 65535 (s.eventsLost + 1)) ∧
  (∀ (s : State) (r : Reply), s.tlink.state = .up → (s.placeReply r).replies = s.replies ++ [r]) ∧
  (∀ (s : State) (r : Reply), s.tlink.state ≠ .up → (s.placeReply r).replies = s.replies)

/-! ## Position commands -/

/-- R14: POS_MAP writes both slots of a CLOSED position where no other position holds them, and sets
ABSENT from the new H-slot's presence debouncer; a slot that another position holds is refused with
REFUSED_BUSY and that position's number, the H-slot's first. In any other state it is refused. The slot law,
which rules out that two positions hold one slot (R148), is a law that every step keeps. -/
def Obligations.PosMapWritesBothSlots : Prop :=
  ∀ (s : State) (wp wh wt : Word) (p : Position) (hs ts : Option Slot),
    s.accepts = true → posOf wp = some p → slotOf wh = some hs → slotOf wt = some ts →
    ((s.posn p).record.stored ≠ .closed →
      exec (.posMap [wp, wh, wt]) s = .next (s.said 0x01 .refusedState [])) ∧
    ((s.posn p).record.stored = .closed →
    let absent := match hs with
      | none => true
      | some j => !(s.debouncers[j.val]).presence.level
    ((∀ q : Position, q ≠ p →
        (hs ≠ none → (s.posn q).record.hSlot ≠ hs) ∧ (ts ≠ none → (s.posn q).record.tSlot ≠ ts)) →
      exec (.posMap [wp, wh, wt]) s = .next
        ((s.modRecord p fun r =>
          { r with hSlot := hs, tSlot := ts, mute := { r.mute with absent := absent } }).said
          0x01 .done [])) ∧
    (∀ q : Position, s.slotLaw → q ≠ p → hs ≠ none → (s.posn q).record.hSlot = hs →
      exec (.posMap [wp, wh, wt]) s = .next (s.said 0x01 .refusedBusy [numWord q.val])) ∧
    (∀ q : Position, s.slotLaw → (∀ j : Position, j ≠ p → hs ≠ none → (s.posn j).record.hSlot ≠ hs) →
      q ≠ p → ts ≠ none → (s.posn q).record.tSlot = ts →
      exec (.posMap [wp, wh, wt]) s = .next (s.said 0x01 .refusedBusy [numWord q.val])))

/-- R15, R27: POS_OPEN grants up to the clamped request from the head of the free list, attached with
zero coefficients, and puts the record at OPENING with its parameters at their defaults. That the frame in
progress uses those defaults too is the model's reading of R21 and R62 (notes/assumptions/17.md). A
position that is not CLOSED or lacks a slot refuses it. -/
def Obligations.PosOpenGrantsBlocks : Prop :=
  ∀ (s : State) (wp wn : Word) (p : Position),
    s.accepts = true → posOf wp = some p →
    let r := (s.posn p).record
    let n := min 16 wn.toNat
    let granted := min n s.freeTaps.length
    (r.stored ≠ .closed ∨ r.hSlot = none ∨ r.tSlot = none →
      exec (.posOpen [wp, wn]) s = .next (s.said 0x02 .refusedState [])) ∧
    (r.stored = .closed → r.hSlot ≠ none → r.tSlot ≠ none →
    exec (.posOpen [wp, wn]) s = .next
      (({ (s.modPosn p fun x =>
          { x with
            taps := { x.taps with elems := x.taps.elems ++ (s.freeTaps.take n).map fun (b : TapBlock) =>
              ({ block := { b with coefs := List.replicate 64 0 }, attached := true } : TapElem) }
            record := { x.record with
              stored := .opening, params := .default, holdPtr := 0, holdWish := false
              closeReq := false, keys := [] }
            inForce := { x.inForce with params := .default } }) with
        freeTaps := s.freeTaps.drop n }).said 0x02
        (if granted < n then .doneShort else if 16 < wn.toNat then .doneClamped else .done)
        [numWord granted]))

/-- R16: POS_CLOSE in every state of the position. -/
def Obligations.PosCloseSetsTheRequest : Prop :=
  ∀ (s : State) (wp : Word) (p : Position), s.accepts = true → posOf wp = some p →
    exec (.posClose [wp]) s = .next
      (match (s.posn p).record.stored with
        | .closed => s.said 0x03 .refusedState []
        | .closing => s.said 0x03 .done []
        | .opening => (s.modRecord p fun r => { r with closeReq := true }).said 0x03 .done []
        | .active => (s.modRecord p fun r => { r with closeReq := true }).said 0x03 .done [])

/-- R17, R18: POS_HOLD writes the hold wish in TALK and the hold states alone; POS_MUTE writes MGMT in
every state but CLOSED. -/
def Obligations.PosHoldAndPosMuteWriteTheRecord : Prop :=
  ∀ (s : State) (wp wo : Word) (p : Position) (on : Bool),
    s.accepts = true → posOf wp = some p → onOffOf wo = some on →
    exec (.posHold [wp, wo]) s = .next
      (if (s.posn p).record.stored = .active then
        (s.modRecord p fun r => { r with holdWish := on }).said 0x04 .done []
      else s.said 0x04 .refusedState []) ∧
    exec (.posMute [wp, wo]) s = .next
      (if (s.posn p).record.stored = .closed then s.said 0x05 .refusedState []
      else (s.modRecord p fun r => { r with mute := { r.mute with mgmt := on } }).said 0x05 .done [])

/-- R19: the three modes of POS_VOLUME, in every state of the position. -/
def Obligations.PosVolumeChangesTheIndex : Prop :=
  ∀ (s : State) (wp wv : Word) (p : Position), s.accepts = true → posOf wp = some p →
    let v := (s.posn p).record.volume
    exec (.posVolumeAbsolute [wp, wv]) s = .next
      ((s.modRecord p fun r => { r with volume := min 15 wv.toNat }).said 0x06
        (if 15 < wv.toNat then .doneClamped else .done) [numWord (min 15 wv.toNat)]) ∧
    exec (.posVolumeStepUp [wp, wv]) s = .next
      ((s.modRecord p fun r => { r with volume := min 15 (v + 1) }).said 0x06 .done
        [numWord (min 15 (v + 1))]) ∧
    exec (.posVolumeStepDown [wp, wv]) s = .next
      ((s.modRecord p fun r => { r with volume := v - 1 }).said 0x06 .done [numWord (v - 1)])

/-- R20, R21: POS_SET is refused in CLOSED; else, of each numeric parameter, it stores the value clamped into its range, and of the
NS profile and the capture mode stores the identifier (notes 3 and 4 of R21). -/
def Obligations.PosSetStoresTheParameter : Prop :=
  ∀ (s : State) (wp wi wv : Word) (p : Position),
    s.accepts = true → posOf wp = some p →
    (wi.toNat < 10 → (s.posn p).record.stored = .closed → paramInRange wi wv = true →
      exec (.posSet [wp, wi, wv]) s = .next (s.said 0x07 .refusedState [])) ∧
    (paramInRange wi wv = false → exec (.posSet [wp, wi, wv]) s = .next (s.said 0x07 .refusedRange [])) ∧
    ((s.posn p).record.stored ≠ .closed →
    (∀ e ∈ numericParams, wi.toNat = e.ident →
      let v := max e.lo (min e.hi wv.toNat)
      exec (.posSet [wp, wi, wv]) s = .next
        ((s.modRecord p fun r => { r with params := e.put r.params v }).said 0x07
          (if wv.toNat < e.lo ∨ e.hi < wv.toNat then .doneClamped else .done) [numWord v])) ∧
    (∀ k : ProfileId, wi.toNat = 3 → wv.toNat = k.val →
      exec (.posSet [wp, wi, wv]) s = .next
        ((s.modPosn p fun x =>
          { x with
            record := { x.record with params := { x.record.params with nsProfile := k } }
            ns := { x.ns with floor := max 1 (min 32767 x.ns.floor) } }).said 0x07 .done [wv])) ∧
    (∀ m : CaptureMode, wi.toNat = 9 → captureOf wv = some m →
      exec (.posSet [wp, wi, wv]) s = .next
        ((s.modPosn p fun x =>
          { x with
            record := { x.record with params := { x.record.params with capture := m } }
            ec := if x.record.params.capture = m then x.ec else { x.ec with unread := false } }).said
          0x07 .done [wv])))

/-- R21 note 2, R113: POS_SET of the hold source. A source equal to the present one changes nothing;
another one is written with the hold pointer at 0, a new clip, which must be READY, gains a use, and
an old clip loses one. The pointer that stood serves the hold input of the frame in progress, which is still
formed from the old source (R96; notes/assumptions/18.md). -/
def Obligations.PosSetMovesTheHoldSource : Prop :=
  ∀ (s : State) (wp wi wv : Word) (p : Position) (src : HoldSource),
    s.accepts = true → posOf wp = some p → (s.posn p).record.stored ≠ .closed → wi.toNat = 1 →
    holdSourceOf wv = some src →
    let old := (s.posn p).record.params.holdSource
    let written : State → State := fun u => u.modPosn p fun x =>
      { x with
        record := { x.record with params := { x.record.params with holdSource := src }, holdPtr := 0 }
        inForce := { x.inForce with readPtr := some (x.inForce.readPtr.getD x.record.holdPtr) } }
    (src = old → exec (.posSet [wp, wi, wv]) s = .next (s.said 0x07 .done [wv])) ∧
    (∀ k : ProgId, src = .prog k → src ≠ old →
      exec (.posSet [wp, wi, wv]) s = .next (((written (s.busy 0x07)).releaseSource old).said 0x07 .done [wv])) ∧
    (∀ c : ClipId, src = .clip c → src ≠ old →
      exec (.posSet [wp, wi, wv]) s = .next
        (if (s.store.clip c).state = .ready then
          ((written { s.busy 0x07 with store := s.store.takeUse c }).releaseSource old).said 0x07 .done [wv]
        else s.said 0x07 .refusedState []))

/-- R28 to R30: POS_TAIL where no change is pending: equal, grow with blocks free, grow with none, and
shrink. A pending change answers REFUSED_BUSY, and a CLOSED or CLOSING position REFUSED_STATE. -/
def Obligations.PosTailAsksForAChange : Prop :=
  ∀ (s : State) (wp wn : Word) (p : Position),
    s.accepts = true → posOf wp = some p →
    ((s.posn p).record.stored = .closed ∨ (s.posn p).record.stored = .closing →
      exec (.posTail [wp, wn]) s = .next (s.said 0x09 .refusedState [])) ∧
    ((s.posn p).record.stored = .opening ∨ (s.posn p).record.stored = .active →
    let n := min 16 wn.toNat
    let len := (s.posn p).taps.elems.length
    let free := s.freeTaps.length
    let code : ReplyCode := if 16 < wn.toNat then .doneClamped else .done
    ((s.posn p).taps.change ≠ none →
      exec (.posTail [wp, wn]) s = .next (s.said 0x09 .refusedBusy [])) ∧
    ((s.posn p).taps.change = none → n = len →
      exec (.posTail [wp, wn]) s = .next (s.said 0x09 code [numWord 0, numWord len, numWord free])) ∧
    ((s.posn p).taps.change = none → len < n → 0 < free →
      let k := min (n - len) free
      exec (.posTail [wp, wn]) s = .next
        (({ (s.modPosn p fun x =>
            { x with taps :=
              { elems := x.taps.elems ++ (s.freeTaps.take k).map fun (b : TapBlock) =>
                  ({ block := b, attached := false } : TapElem)
                change := some .grow } }) with
          freeTaps := s.freeTaps.drop k }).said 0x09 (if k < n - len then .doneShort else code)
          [numWord k, numWord (len + k), numWord (free - k)])) ∧
    ((s.posn p).taps.change = none → len < n → free = 0 →
      exec (.posTail [wp, wn]) s = .next
        (s.said 0x09 .doneShort [numWord 0, numWord len, numWord 0])) ∧
    ((s.posn p).taps.change = none → n < len →
      exec (.posTail [wp, wn]) s = .next
        ((s.modPosn p fun x => { x with taps := { x.taps with change := some (.shrink n) } }).said 0x09
          code [numWord 0, numWord n, numWord free])))

/-! ## Queries -/

/-- R22, R75, R89, R115, R126, section 12.5: these queries reply DONE with what stands when they are taken,
word by word, and change nothing else. -/
def Obligations.QueriesChangeNothing : Prop :=
  ∀ (s : State) (w : Word), s.accepts = true →
    (∀ p : Position, posOf w = some p →
      (let x := s.posn p
       let r := x.record
       let q := r.params
       let slot : Option Slot → Nat := fun k => match k with
        | none => 0xFF
        | some j => j.val
       exec (.posQuery [w]) s = .next (s.said 0x08 .done
        [packBytes (codeOfCall (callState r)) r.volume, packBytes (slot r.hSlot) (slot r.tSlot),
         packBytes r.wo r.h,
         packBytes r.wm (bit r.outTarget + 2 * bit r.holdTarget + 4 * bit r.muteTarget),
         BitVec.ofNat 16
          (bit r.holdWish + 2 * bit r.closeReq +
            4 * (bit r.mute.key + 2 * bit r.mute.mgmt + 4 * bit r.mute.absent) + 32 * min r.keys.length 7),
         packBytes (x.taps.elems.filter fun e => e.attached).length
          (x.taps.elems.filter fun e => !e.attached).length,
         numWord q.sidetone,
         (match q.holdSource with
          | .prog k => numWord k.val
          | .clip c => numWord (0x100 + c.val)),
         numWord q.holdGain, packBytes q.nsProfile.val q.convBand,
         packBytes q.stepM (match q.capture with | .auto => 0 | .single => 1),
         numWord q.regR, numWord q.dtRatio, numWord q.hangoverFrames])) ∧
      (let pl := (s.posn p).player
       exec (.promptQuery [w]) s = .next (s.said 0x3A .done
        ([BitVec.ofNat 16
            (32768 * bit (pl.state = .finishing) + 16384 * bit pl.startPending + 256 * min pl.wd 63 +
              min pl.remaining 255),
          BitVec.ofNat 16 (pl.readPtr % 65536),
          BitVec.ofNat 16 (8192 * min (pl.readPtr / 65536) 7 + min pl.duckLevel 8191)] ++
         pl.queue.flatMap fun e =>
          [BitVec.ofNat 16 (e.clip.val + 128 * bit e.notify + 256 * min e.repeats 255), numWord e.gain,
           numWord e.duck])))) ∧
    (∀ k : ProfileId, profileOf w = some k →
      let words : Nat → Bool → Profile → List Word := fun selector pend q =>
        [packBytes k.val (2 * selector + bit pend),
         BitVec.ofNat 16
          (min q.attack 7 + 16 * min q.release 15 + 256 * min q.rise 15 + 32768 * bit q.bypass),
         numWord q.initialFloor, numWord q.upStep, numWord q.downStep] ++ q.curve.toList.map numWord
      exec (.profileRead [w, 0]) s = .next
        (s.said 0x19 .done (words 0 (s.pendingProfiles[k.val]).isSome s.profiles[k.val])) ∧
      (s.pendingProfiles[k.val] = none →
        exec (.profileRead [w, 1]) s = .next (s.said 0x19 .refusedState [])) ∧
      (∀ q : Profile, s.pendingProfiles[k.val] = some q →
        exec (.profileRead [w, 1]) s = .next (s.said 0x19 .done (words 1 true q)))) ∧
    (w.toNat ≤ 63 →
      exec (.routeList [w]) s = .next
        (s.said 0x24 .done (packBytes s.routes.active.length w.toNat ::
          ((s.routes.active.drop w.toNat).take 5).flatMap fun x => [routeWord x.pair, numWord x.gain]))) ∧
    (∀ c : ClipId, clipOf w = some c →
      let r := s.store.clip c
      exec (.clipQuery [w]) s = .next
        (s.said 0x34 .done
          ([packBytes (codeOfClip r.state) r.uses] ++ twoWords r.start ++ twoWords r.length ++
            twoWords r.fill ++ twoWords (freeWords s.store.clips) ++
            twoWords (largestExtent s.store.free))))

/-- R136: SHOCK_QUERY, for every body: the checks in the order of R13, the nine words of the record as
they stand, and nothing changed. -/
def Obligations.ShockQueryReturnsTheRecord : Prop :=
  ∀ (s : State) (body : List Word), s.accepts = true →
    exec (.shockQuery body) s = .next
      (match body with
        | [w] =>
          if h : w.toNat < 32 then
            let x := s.posn ⟨w.toNat, h⟩
            let k := x.shock
            s.said 0x42 .done
              [numWord k.threshold, packBytes k.filterK (codeOfShockMode k.mode), numWord k.limitGain,
               packBytes k.holdTurns x.record.volume, numWord k.releaseStep, numWord k.ceiling,
               packBytes (codeOfShock k.state) k.overCount, numWord k.sg, numWord k.hold]
          else s.said 0x42 .refusedRange []
        | _ => s.said 0x42 .refusedLength [])

/-- R105: PROG_QUERY, for every body: state, silent count, loud flag, threshold and S of programmes 0
to 3, then the fallback setting, and nothing changed. -/
def Obligations.ProgQueryReturnsTheMonitor : Prop :=
  ∀ (s : State) (body : List Word), s.accepts = true →
    exec (.progQuery body) s = .next
      (if body = [] then
        s.said 0x2A .done
          ((List.finRange 4).flatMap (fun k : Fin 4 =>
            let g := s.progs[k.val]
            [packBytes g.silentCount (bit g.loud * 2 + bit g.sounding), numWord g.threshold,
             numWord g.silenceCycles]) ++
           [match s.fallback with
            | none => 0x00FF
            | some c => numWord c.val])
      else s.said 0x2A .refusedLength [])

/-- R60, R161, R166, section 12.5: EC_REPORT replies with the echo report and clears the unread flag that it
reports (its unread byte, 1 or 0, is the model's choice, notes/assumptions/39.md); RESUME clears the overrun
discard count; DEV_QUERY replies with the device's state and clears the events-lost, check-failure and
framing-error counts (its revision byte is a free value, notes/assumptions/4.md). -/
def Obligations.ReportsClearWhatTheyReport : Prop :=
  ∀ s : State, s.accepts = true →
    (∀ (w : Word) (p : Position), posOf w = some p →
      let c := (s.posn p).ec
      let r := c.report
      exec (.ecReport [w]) s = .next
        ((s.modPosn p fun x => { x with ec := { x.ec with unread := false } }).said 0x11 .done
          ([packBytes (codeOfEc r.state) (bit r.freeze.hold + 2 * bit r.freeze.mgmt + 4 * bit r.freeze.link),
            packBytes r.band r.dtFrames, packBytes r.resetCount (bit c.unread)] ++
           twoWords r.returnEnergy ++ twoWords r.residualEnergy ++
           [(match r.peakTap with | none => 0xFFFF | some k => numWord k), r.peakCoef]))) ∧
    exec (.resume []) s = .next
      ({ s with receiver := { s.receiver with discards := 0 } }.said 0x51 .done
        [numWord s.receiver.discards]) ∧
    exec (.devQuery []) s = .next
      ({ s with
          eventsLost := 0
          receiver := { s.receiver with checkFailures := 0, framingErrors := 0 } }.said 0x52 .done
        ([packBytes 0x32 Config.revision.toNat,
          packBytes (4 * codeOfHLink s.hlink.state + codeOfTLink s.tlink.state) s.events.length,
          numWord s.freeTaps.length] ++
         twoWords (freeWords s.store.clips) ++ twoWords (largestExtent s.store.free) ++
         [numWord s.eventsLost, numWord s.receiver.checkFailures, numWord s.receiver.framingErrors,
          numWord s.receiver.discards, packBytes 32 4, numWord 256, packBytes 16 64, packBytes 64 19]))

/-! ## Canceller and profile commands -/

/-- R55: FREEZE adds MGMT and THAW removes it, in every state of the position but CLOSED. R56: RESET
zeroes the attached coefficients, the sums, the counts and the hangover counter and gives CONVERGING;
on an OFF canceller it is refused, and all three in CLOSED. -/
def Obligations.EcControlActsOnTheCanceller : Prop :=
  ∀ (s : State) (w : Word) (p : Position), s.accepts = true → posOf w = some p →
    ((s.posn p).record.stored = .closed →
      exec (.ecControlFreeze [w]) s = .next (s.said 0x10 .refusedState []) ∧
      exec (.ecControlThaw [w]) s = .next (s.said 0x10 .refusedState []) ∧
      exec (.ecControlReset [w]) s = .next (s.said 0x10 .refusedState [])) ∧
    ((s.posn p).record.stored ≠ .closed →
    let c := (s.posn p).ec
    let set : Bool → State := fun on =>
      s.modPosn p fun x => { x with ec := { x.ec with freeze := { x.ec.freeze with mgmt := on } } }
    exec (.ecControlFreeze [w]) s = .next ((set true).said 0x10 .done
      [packBytes 0 (codeOfEc c.state), numWord ({ c.freeze with mgmt := true } : FreezeSet).bits]) ∧
    exec (.ecControlThaw [w]) s = .next ((set false).said 0x10 .done
      [packBytes 1 (codeOfEc c.state), numWord ({ c.freeze with mgmt := false } : FreezeSet).bits]) ∧
    exec (.ecControlReset [w]) s = .next
      (if (s.posn p).ec.state = .off then s.said 0x10 .refusedState []
      else
        (s.modPosn p fun x =>
          { x with
            taps := { x.taps with elems := x.taps.elems.map fun e =>
              if e.attached then { e with block := { e.block with coefs := List.replicate 64 0 } } else e }
            ec := { x.ec with
              state := .converging, hangover := 0, sumD := 0, sumE := 0, dtFrames := 0
              convCount := 0, divCount := 0, resetCount := 0 } }).said 0x10 .done
          [packBytes 2 1, numWord (s.posn p).ec.freeze.bits]))

/-- R72: PROFILE_WRITE stores the clamped copy as the profile's pending copy, and answers DONE_CLAMPED where
a value lay outside its range; the active copies stand. The reply's byte is 1 where an earlier pending copy
was replaced and else 0 (the model's choice, notes/assumptions/38.md); a copy that a cycle start of the same
frame ended counts as replaced (notes/assumptions/35.md). R73: at the cycle start every pending copy becomes
the active copy and ceases to be pending. R74: in the frame of a cycle start either may be first, with the
same reply; the write's copy is then active at once or waits for the next cycle start. -/
def Obligations.ProfilesAreStagedAndApplied : Prop :=
  (∀ (s : State) (wk a r i f u d c0 c1 c2 c3 c4 c5 c6 c7 wb : Word) (k : ProfileId) (bypass : Bool),
    s.accepts = true → profileOf wk = some k → onOffOf wb = some bypass →
    exec (.profileWrite [wk, a, r, i, f, u, d, c0, c1, c2, c3, c4, c5, c6, c7, wb]) s = .next
      ({ s with pendingProfiles := s.pendingProfiles.set k.val (some
          { attack := min 7 a.toNat, release := min 15 r.toNat, rise := min 15 i.toNat
            initialFloor := max 1 (min 32767 f.toNat), upStep := max 1 (min 4096 u.toNat)
            downStep := max 1 (min 4096 d.toNat)
            curve := (#v[c0, c1, c2, c3, c4, c5, c6, c7] : Vector Word 8).map fun (w : Word) => min 4096 w.toNat
            bypass := bypass }) }.said 0x18
        (if 7 < a.toNat ∨ 15 < r.toNat ∨ 15 < i.toNat ∨ f.toNat < 1 ∨ 32767 < f.toNat ∨ u.toNat < 1 ∨
            4096 < u.toNat ∨ d.toNat < 1 ∨ 4096 < d.toNat ∨
            (∃ w ∈ [c0, c1, c2, c3, c4, c5, c6, c7], 4096 < w.toNat) then .doneClamped else .done)
        [packBytes k.val (bit ((s.pendingProfiles[k.val]).isSome || s.flags.copiesApplied[k.val]))])) ∧
  (∀ s : State, s.resetLow = false → s.profilesDue = true →
    ∃ t, exec .profilePendingApply s = .next t ∧
      (∀ k : Fin 4, t.profiles[k.val] = (s.pendingProfiles[k.val]).getD s.profiles[k.val] ∧
        t.pendingProfiles[k.val] = none) ∧
      t = { s with
        profiles := t.profiles, pendingProfiles := t.pendingProfiles
        flags := { s.flags with
          profilesDone := true
          copiesApplied := s.pendingProfiles.map fun q => q.isSome } }) ∧
  (∀ (s : State) (body : List Word) (k : ProfileId) (bypass : Bool), s.accepts = true → s.profilesDue = true →
    s.flags.copiesApplied = Vector.replicate 4 false → body.length = 16 →
    profileOf (body.getD 0 0) = some k → onOffOf (body.getD 15 0) = some bypass →
    ∃ (t u : State) (new : Profile),
      runAll [.profileWrite body, .profilePendingApply] s = .next t ∧
      runAll [.profilePendingApply, .profileWrite body] s = .next u ∧
      t.replies = u.replies ∧
      t.profiles[k.val] = new ∧ t.pendingProfiles[k.val] = none ∧
      u.profiles[k.val] = (s.pendingProfiles[k.val]).getD s.profiles[k.val] ∧
      u.pendingProfiles[k.val] = some new)

/-! ## Routes -/

/-- R83, R84: a ROUTE_PUT with a CLOSED end is refused with REFUSED_STATE and one that R82 forbids with
REFUSED_LOOP; any other updates the gain of a pair in the shadow table in place, or appends a new route
where there is room. -/
def Obligations.RoutePutEditsTheShadowTable : Prop :=
  ∀ (s : State) (wsk ws wdk wd wg : Word) (r : RoutePair),
    s.accepts = true → pairOf wsk ws wdk wd = some r →
    ((s.posn r.src).record.stored = .closed ∨ (s.posn r.dst).record.stored = .closed →
      exec (.routePut [wsk, ws, wdk, wd, wg]) s = .next (s.said 0x20 .refusedState [])) ∧
    ((s.posn r.src).record.stored ≠ .closed → (s.posn r.dst).record.stored ≠ .closed →
    (forbiddenPair r = true →
      exec (.routePut [wsk, ws, wdk, wd, wg]) s = .next (s.said 0x20 .refusedLoop [])) ∧
    (forbiddenPair r = false →
    let t := s.routes.shadow
    let g := min 8192 wg.toNat
    let code : ReplyCode := if 8192 < wg.toNat then .doneClamped else .done
    (∀ i : Nat, routeIndex t r = some i →
      exec (.routePut [wsk, ws, wdk, wd, wg]) s = .next
        ({ s with routes := { s.routes with shadow := t.modify i fun x => { x with gain := g } } }.said
          0x20 code [packBytes 1 i, numWord g, numWord t.length])) ∧
    (routeIndex t r = none → t.length < 64 → routesInto t r.dstKind r.dst < 4 →
      exec (.routePut [wsk, ws, wdk, wd, wg]) s = .next
        ({ s with routes := { s.routes with shadow := t ++ [({ pair := r, gain := g } : Route)] } }.said
          0x20 code [packBytes 0 t.length, numWord g, numWord (t.length + 1)])) ∧
    (routeIndex t r = none → 64 ≤ t.length ∨ 4 ≤ routesInto t r.dstKind r.dst →
      exec (.routePut [wsk, ws, wdk, wd, wg]) s = .next (s.said 0x20 .refusedRoom []))))

/-- R85, R86, for every body: ROUTE_DROP removes the pair from the shadow table, the routes after it
close up, and the reply carries the shadow count; a pair that is not in the table, a position above 31
or a code that is no kind, and another length are refused. ROUTE_REVERT makes the shadow table a copy
of the active table and reports its count; a body that is not empty is refused. -/
def Obligations.RouteDropAndRevertEditTheShadowTable : Prop :=
  ∀ (s : State) (body : List Word), s.accepts = true →
    exec (.routeDrop body) s = .next
      (match body with
        | [wsk, ws, wdk, wd] =>
          if h : wsk.toNat < 2 ∧ ws.toNat < 32 ∧ wdk.toNat < 2 ∧ wd.toNat < 32 then
            let pair : RoutePair :=
              { srcKind := if wsk = 0 then .uplink else .residual, src := ⟨ws.toNat, h.2.1⟩
                dstKind := if wdk = 0 then .ear else .send, dst := ⟨wd.toNat, h.2.2.2⟩ }
            match s.routes.shadow.findIdx? fun x => x.pair = pair with
            | none => s.said 0x21 .refusedState []
            | some i =>
              { s with routes := { s.routes with shadow := s.routes.shadow.eraseIdx i } }.said 0x21 .done
                [numWord (s.routes.shadow.length - 1)]
          else s.said 0x21 .refusedRange []
        | _ => s.said 0x21 .refusedLength []) ∧
    exec (.routeRevert body) s = .next
      (if body = [] then
        { s with routes := { s.routes with shadow := s.routes.active } }.said 0x22 .done
          [numWord s.routes.active.length]
      else s.said 0x22 .refusedLength [])

/-- R87: ROUTE_COMMIT makes no reply and holds the unit; at the cycle start the active table becomes a
copy of the shadow table, the flag is cleared, the unit is ready and the reply is placed. -/
def Obligations.RouteCommitIsAppliedAtTheCycleStart : Prop :=
  (∀ s : State, s.accepts = true →
    exec (.routeCommit []) s = .next
      { s.busy 0x23 with routes := { s.routes with commitPending := true }, cmdUnit := .heldCommit }) ∧
  (∀ s : State, s.resetLow = false → s.commitDue = true → s.routes.commitPending = true →
    exec .routeCommitApply s = .next
      ({ s with
          routes := { active := s.routes.shadow, shadow := s.routes.shadow, commitPending := false }
          cmdUnit := .ready
          flags := { s.flags with commitDone := true } }.placeReply
        { kind := 0x23, code := .done, results := [numWord s.routes.shadow.length] }))

/-! ## Programmes -/

/-- R103: PROG_SET stores the clamped threshold and S and keeps the rest of the programme. The state
code of its reply is the model's reading (notes/assumptions/12.md). -/
def Obligations.ProgSetStoresTheSettings : Prop :=
  ∀ (s : State) (wk wt wn : Word) (k : ProgId), s.accepts = true → progOf wk = some k →
    let t := min 32767 wt.toNat
    let n := max 1 (min 255 wn.toNat)
    let g := s.progs[k.val]
    exec (.progSet [wk, wt, wn]) s = .next
      ({ s with progs := s.progs.set k.val { g with threshold := t, silenceCycles := n } }.said 0x28
        (if 32767 < wt.toNat ∨ wn.toNat < 1 ∨ 255 < wn.toNat then .doneClamped else .done)
        [packBytes k.val (bit g.sounding), numWord t, packBytes n g.silentCount])

/-- R104: FALLBACK_SET with the present setting, with a READY clip, with a clip that is not READY, and
with none. -/
def Obligations.FallbackSetMovesTheUse : Prop :=
  ∀ (s : State) (w : Word) (new : Option ClipId), s.accepts = true → clipOrNoneOf w = some new →
    let results := [numWord (codeOfFallback s.fallback), numWord (codeOfFallback new)]
    (new = s.fallback → exec (.fallbackSet [w]) s = .next (s.said 0x29 .done results)) ∧
    (new = none → new ≠ s.fallback →
      exec (.fallbackSet [w]) s = .next
        (({ s.busy 0x29 with fallback := none }.releaseFallback s.fallback).said 0x29 .done results)) ∧
    (∀ c : ClipId, new = some c → new ≠ s.fallback → (s.store.clip c).state = .ready →
      exec (.fallbackSet [w]) s = .next
        (({ s.busy 0x29 with fallback := some c, store := s.store.takeUse c }.releaseFallback s.fallback).said
          0x29 .done results)) ∧
    (∀ c : ClipId, new = some c → new ≠ s.fallback → (s.store.clip c).state ≠ .ready →
      exec (.fallbackSet [w]) s = .next (s.said 0x29 .refusedState []))

/-- R102: at a cycle start each programme's ended cycle is evaluated in programme order; the flags are
then clear. CYCLE_START does so where it is due, and PROG_SILENT is the same step where programme k
falls SILENT. -/
def Obligations.CycleStartEvaluatesTheProgrammes : Prop :=
  ∀ s : State, s.resetLow = false → s.monitorDue = true →
    (∃ t, exec .cycleStart s = .next t ∧
      (∀ k : Fin 4,
        let g := s.progs[k.val]
        let n := min 255 (g.silentCount + 1)
        t.progs[k.val] =
          (if g.loud then { g with sounding := true, silentCount := 0, loud := false }
          else if g.sounding ∧ g.silenceCycles ≤ n then
            { g with sounding := false, silentCount := n, loud := false }
          else { g with silentCount := n, loud := false })) ∧
      t.store = s.store ∧ t.routes = s.routes ∧ t.pos = s.pos ∧ t.fallback = s.fallback ∧
      t.replies = s.replies ∧ t.timer = s.timer ∧
      (s.events.length + 4 ≤ 64 →
        t.events = s.events ++ (List.finRange 4).flatMap fun k : Fin 4 =>
          let g := s.progs[k.val]
          if g.sounding ∧ ¬ g.loud ∧ g.silenceCycles ≤ min 255 (g.silentCount + 1) then [.progSilent k]
          else if ¬ g.sounding ∧ g.loud then [.progBack k]
          else []) ∧
      (∀ k : ProgId,
        (s.progs[k.val]).sounding = true → (s.progs[k.val]).loud = false →
        (s.progs[k.val]).silenceCycles ≤ min 255 ((s.progs[k.val]).silentCount + 1) →
        exec (.progSilent k) s = .next t))

/-! ## Clips -/

/-- R108, R109: CLIP_BEGIN of a clip that is not EMPTY, with a clip LOADING, or of a length outside 1 to
524288 is refused, in that order. Else it takes the first free extent that is long enough; with none, it
is refused and reports the largest extent and the free words. -/
def Obligations.ClipBeginAllocatesFirstFit : Prop :=
  ∀ (s : State) (wc whi wlo : Word) (c : ClipId), s.accepts = true → clipOf wc = some c →
    let n := whi.toNat * 65536 + wlo.toNat
    ((s.store.clip c).state ≠ .empty →
      exec (.clipBegin [wc, whi, wlo]) s = .next (s.said 0x30 .refusedState [])) ∧
    (∀ d : ClipId, (s.store.clip c).state = .empty → (s.store.clip d).state = .loading →
      exec (.clipBegin [wc, whi, wlo]) s = .next (s.said 0x30 .refusedBusy [])) ∧
    ((s.store.clip c).state = .empty → (∀ d : ClipId, (s.store.clip d).state ≠ .loading) →
    (n = 0 ∨ 524288 < n →
      exec (.clipBegin [wc, whi, wlo]) s = .next (s.said 0x30 .refusedRange [])) ∧
    (1 ≤ n → n ≤ 524288 →
    (∀ (before after : List Extent) (x : Extent),
      s.store.free = before ++ x :: after → (∀ y ∈ before, y.length < n) → n ≤ x.length →
      let rest := before ++
        (if x.length = n then after else { start := x.start + n, length := x.length - n } :: after)
      exec (.clipBegin [wc, whi, wlo]) s = .next
        ({ s with store :=
            { s.store with
              clips := s.store.clips.set c.val
                { state := .loading, start := x.start, length := n, fill := 0, uses := 0 }
              free := rest } }.said 0x30 .done
          ([numWord c.val] ++ twoWords x.start ++ twoWords n ++ twoWords (largestExtent rest)))) ∧
    ((∀ y ∈ s.store.free, y.length < n) →
      exec (.clipBegin [wc, whi, wlo]) s = .next
        (s.said 0x30 .refusedRoom
          (twoWords (largestExtent s.store.free) ++ twoWords (freeWords s.store.clips))))))

/-- R110: CLIP_DATA writes its words after those the LOADING clip holds, and the word that fills the
clip makes it READY. Every other word of memory reads as before. It is refused for a clip that is not
LOADING and for more words than the clip still lacks. -/
def Obligations.ClipDataWritesTheClip : Prop :=
  ∀ (s : State) (wc : Word) (ws : List Word) (c : ClipId), s.accepts = true → clipOf wc = some c →
    1 ≤ ws.length → ws.length ≤ 15 →
    let r := s.store.clip c
    (r.state ≠ .loading → exec (.clipData (wc :: ws)) s = .next (s.said 0x31 .refusedState [])) ∧
    (r.state = .loading → r.fill ≤ r.length → r.length < r.fill + ws.length →
      exec (.clipData (wc :: ws)) s = .next (s.said 0x31 .refusedRange [])) ∧
    (r.state = .loading → r.fill + ws.length ≤ r.length → r.start + r.length ≤ 524288 →
    Memory.wf s.store.mem = true →
    ∃ m, exec (.clipData (wc :: ws)) s = .next
        ({ s with store :=
            { s.store with
              clips := s.store.clips.set c.val
                { r with
                  fill := r.fill + ws.length
                  state := if r.fill + ws.length = r.length then .ready else .loading }
              mem := m } }.said 0x31 .done
          (packBytes c.val (if r.fill + ws.length = r.length then 2 else 1) ::
            twoWords (r.fill + ws.length))) ∧
      (∀ i : Nat, i < ws.length → memRead m (r.start + r.fill + i) = ws.getD i 0) ∧
      ∀ a : Nat, a < r.start + r.fill ∨ r.start + r.fill + ws.length ≤ a →
        memRead m a = memRead s.store.mem a)

/-- R111, R114: CLIP_CANCEL and the delete of a READY clip without uses release the extent and leave an
EMPTY record; the delete of a READY clip in use makes it RETIRING, and a RETIRING clip stays so. A
release that brings a RETIRING clip to 0 uses empties it and raises CLIP_FREED; any other lowers the
count. -/
def Obligations.ClipsAreRemovedAndReleased : Prop :=
  (∀ (s : State) (wc : Word) (c : ClipId), s.accepts = true → clipOf wc = some c →
    let r := s.store.clip c
    let emptied : State := { s with store :=
      { s.store with
        clips := s.store.clips.set c.val Clip.empty
        free := releaseExtent { start := r.start, length := r.length } s.store.free } }
    (r.state = .loading →
      exec (.clipCancel [wc]) s = .next (emptied.said 0x32 .done (numWord c.val :: twoWords r.fill))) ∧
    (r.state ≠ .loading → exec (.clipCancel [wc]) s = .next (s.said 0x32 .refusedState [])) ∧
    (r.state = .ready → r.uses = 0 →
      exec (.clipDelete [wc]) s = .next (emptied.said 0x33 .done [packBytes 0 0])) ∧
    (r.state = .ready → r.uses ≠ 0 →
      exec (.clipDelete [wc]) s = .next
        ({ s with store :=
            { s.store with clips := s.store.clips.set c.val { r with state := .retiring } } }.said
          0x33 .done [packBytes 3 r.uses])) ∧
    (r.state = .retiring →
      exec (.clipDelete [wc]) s = .next (s.said 0x33 .done [packBytes 3 r.uses])) ∧
    (r.state = .empty ∨ r.state = .loading →
      exec (.clipDelete [wc]) s = .next (s.said 0x33 .refusedState []))) ∧
  (∀ (s : State) (w : Option EventBlock) (c : ClipId),
    let r := s.store.clip c
    (r.state = .retiring → r.uses = 1 →
      s.releaseUse w c =
        { s with store :=
          { s.store with
            clips := s.store.clips.set c.val Clip.empty
            free := releaseExtent { start := r.start, length := r.length } s.store.free } }.raiseIn .clips w
          (.clipFreed c)) ∧
    (r.state ≠ .retiring ∨ 2 ≤ r.uses →
      s.releaseUse w c =
        { s with store :=
          { s.store with clips := s.store.clips.set c.val { r with uses := r.uses - 1 } } }))

/-! ## Prompts -/

/-- R119: PROMPT_PLAY with the urgent flag off appends the entry, which becomes the head of an IDLE
player with start pending set; a CLOSED position, a clip that is not READY and a full queue refuse it. -/
def Obligations.PromptPlayAppendsTheEntry : Prop :=
  ∀ (s : State) (wp wc wr wg wd wn : Word) (p : Position) (c : ClipId) (notify : Bool),
    s.accepts = true → posOf wp = some p → clipOf wc = some c → onOffOf wn = some notify →
    ((s.posn p).record.stored = .closed ∨ (s.store.clip c).state ≠ .ready →
      exec (.promptPlay [wp, wc, wr, wg, wd, wn]) s = .next (s.said 0x38 .refusedState []) ∧
      exec (.promptPlayUrgent [wp, wc, wr, wg, wd, wn]) s = .next (s.said 0x38 .refusedState [])) ∧
    ((s.posn p).record.stored ≠ .closed → (s.store.clip c).state = .ready →
    let pl := (s.posn p).player
    let e : PromptEntry :=
      { clip := c, repeats := min 255 wr.toNat, gain := min 8192 wg.toNat, duck := min 4096 wd.toNat
        notify := notify }
    let code : ReplyCode :=
      if 255 < wr.toNat ∨ 8192 < wg.toNat ∨ 4096 < wd.toNat then .doneClamped else .done
    let used : State := { s with store := { s.store with
      clips := s.store.clips.set c.val { s.store.clip c with uses := (s.store.clip c).uses + 1 } } }
    (pl.state = .idle → pl.queue = [] →
      exec (.promptPlay [wp, wc, wr, wg, wd, wn]) s = .next
        ((used.modPosn p fun x =>
          { x with player :=
            { x.player with
              state := .playing, queue := [e], readPtr := 0, remaining := e.repeats, passes := 0
              duckLevel := e.duck, startPending := true } }).said 0x38 code
          [numWord p.val, packBytes 0 1])) ∧
    (pl.state ≠ .idle → pl.queue.length < 4 →
      exec (.promptPlay [wp, wc, wr, wg, wd, wn]) s = .next
        ((used.modPosn p fun x =>
          { x with player := { x.player with queue := x.player.queue ++ [e] } }).said 0x38 code
          [numWord p.val, packBytes pl.queue.length (pl.queue.length + 1)])) ∧
    (4 ≤ pl.queue.length →
      exec (.promptPlay [wp, wc, wr, wg, wd, wn]) s = .next (s.said 0x38 .refusedRoom [])))

/-- R119, R120: an urgent PROMPT_PLAY clamps its repeats, gain and duck level as a normal one does, with
DONE_CLAMPED where one lies outside its range, and drops the tail of a full queue, then the head, and puts its entry at
the head with start pending set; the entries between keep their order. Each dropped entry raises
PROMPT_DROPPED with cause URGENT, if its notify flag is on, with the passes it has completed, which are 0 of
the tail, and then releases its clip. That the tail's CLIP_FREED is raised before the head's PROMPT_DROPPED is
the model's reading (notes/assumptions/36.md; the order in which they may enter the queue: 41.md). -/
def Obligations.UrgentPlayDisplacesTheHead : Prop :=
  ∀ (s : State) (wp wc wr wg wd wn : Word) (p : Position) (c : ClipId) (notify : Bool),
    s.accepts = true → posOf wp = some p → clipOf wc = some c → onOffOf wn = some notify →
    (s.posn p).record.stored ≠ .closed → (s.store.clip c).state = .ready →
    (s.posn p).player.queue.length ≤ 4 →
    let pl := (s.posn p).player
    let e : PromptEntry :=
      { clip := c, repeats := min 255 wr.toNat, gain := min 8192 wg.toNat, duck := min 4096 wd.toNat
        notify := notify }
    let code : ReplyCode :=
      if 255 < wr.toNat ∨ 8192 < wg.toNat ∨ 4096 < wd.toNat then .doneClamped else .done
    let rest := (if 4 ≤ pl.queue.length then pl.queue.dropLast else pl.queue).tail
    let drop : State → PromptEntry → Nat → State := fun u d passes =>
      if d.notify then (u.raise (.promptDropped p d.clip passes .urgent)).releaseUse (some .players) d.clip
      else u.releaseUse none d.clip
    let used : State := { s.busy 0x38 with store := { s.store with
      clips := s.store.clips.set c.val { s.store.clip c with uses := (s.store.clip c).uses + 1 } } }
    let tail : State := match pl.queue with
      | [_, _, _, d] => drop used d 0
      | _ => used
    let head : State := match pl.queue with
      | [] => tail
      | d :: _ => drop tail d pl.passes
    exec (.promptPlayUrgent [wp, wc, wr, wg, wd, wn]) s = .next
      ((head.modPosn p fun x =>
        { x with player :=
          { pl with
            state := .playing, queue := e :: rest, readPtr := 0, remaining := e.repeats, passes := 0
            duckLevel := e.duck, startPending := true } }).said 0x38 code
        [numWord p.val, packBytes 0 (rest.length + 1)])

/-- R124: the three modes of PROMPT_STOP. NOW drops the head with cause STOP_NOW and the next entry becomes
head with start pending set; AFTER_PASS makes a PLAYING player FINISHING; FLUSH drops every entry, head to
tail, with cause FLUSH. Each dropped entry raises PROMPT_DROPPED, if its notify flag is on, with the passes
it has completed, which are 0 of every entry but the head, and then releases its clip. That the CLIP_FREED of
one entry is raised before the PROMPT_DROPPED of the next is the model's reading (notes/assumptions/36.md; the
order in which they may enter the queue: 41.md), and that start pending is clear where the queue is left empty
is the model's choice (43.md). A CLOSED position refuses it. -/
def Obligations.PromptStopEndsPrompts : Prop :=
  ∀ (s : State) (w : Word) (p : Position), s.accepts = true → posOf w = some p →
    ((s.posn p).record.stored = .closed →
      exec (.promptStopNow [w]) s = .next (s.said 0x39 .refusedState []) ∧
      exec (.promptStopAfterPass [w]) s = .next (s.said 0x39 .refusedState []) ∧
      exec (.promptStopFlush [w]) s = .next (s.said 0x39 .refusedState [])) ∧
    ((s.posn p).record.stored ≠ .closed →
    let pl := (s.posn p).player
    let drop : DropCause → State → PromptEntry → Nat → State := fun cause u d passes =>
      if d.notify then (u.raise (.promptDropped p d.clip passes cause)).releaseUse (some .players) d.clip
      else u.releaseUse none d.clip
    (pl.state = .idle → pl.queue = [] →
      exec (.promptStopNow [w]) s = .next (s.said 0x39 .done [packBytes 0 0]) ∧
      exec (.promptStopAfterPass [w]) s = .next (s.said 0x39 .done [packBytes 0 0]) ∧
      exec (.promptStopFlush [w]) s = .next (s.said 0x39 .done [packBytes 0 0])) ∧
    (∀ (e : PromptEntry) (rest : List PromptEntry), pl.state ≠ .idle → pl.queue = e :: rest →
      exec (.promptStopNow [w]) s = .next
        ((drop .stopNow ((s.busy 0x39).modPosn p fun x =>
            { x with player := (match rest with
              | [] =>
                { x.player with
                  state := .idle, queue := [], readPtr := 0, remaining := 0, passes := 0
                  startPending := false }
              | d :: ds =>
                { x.player with
                  state := .playing, queue := d :: ds, readPtr := 0, remaining := d.repeats
                  passes := 0, duckLevel := d.duck, startPending := true }) }) e pl.passes).said 0x39 .done [packBytes 1 rest.length]) ∧
      exec (.promptStopAfterPass [w]) s = .next
        ((s.modPosn p fun x => { x with player := { x.player with state := .finishing } }).said 0x39
          .done [packBytes 0 pl.queue.length]) ∧
      exec (.promptStopFlush [w]) s = .next
        ((rest.foldl (fun u d => drop .flush u d 0)
          (drop .flush ((s.busy 0x39).modPosn p fun x =>
            { x with player :=
              { x.player with
                state := .idle, queue := [], readPtr := 0, remaining := 0, passes := 0
                startPending := false } }) e pl.passes)).said 0x39 .done
          [packBytes pl.queue.length 0])))

/-! ## Earpiece, keys, links: commands -/

/-- R134, R135: SHOCK_SET stores the seven clamped parameters, and in LIMITING and LATCHED the gain
follows the new limit gain; SHOCK_CLEAR releases a LATCHED limiter and changes nothing else. -/
def Obligations.ShockCommandsActOnTheStage : Prop :=
  ∀ (s : State) (wp : Word) (p : Position), s.accepts = true → posOf wp = some p →
    let k := (s.posn p).shock
    (∀ (wt wk wg wh wr wm wc : Word) (m : ShockMode), shockModeOf wm = some m →
      let k' : Shock :=
        { k with
          threshold := max 1024 (min 32767 wt.toNat), filterK := max 1 (min 16 wk.toNat)
          limitGain := min 4096 wg.toNat, holdTurns := max 1 (min 255 wh.toNat)
          releaseStep := max 1 (min 4096 wr.toNat), mode := m
          ceiling := max 1024 (min 32767 wc.toNat)
          sg := if k.state = .limiting ∨ k.state = .latched then min 4096 wg.toNat else k.sg }
      exec (.shockSet [wp, wt, wk, wg, wh, wr, wm, wc]) s = .next
        ((s.modPosn p fun x => { x with shock := k' }).said 0x40
          (if wt.toNat < 1024 ∨ 32767 < wt.toNat ∨ wk.toNat < 1 ∨ 16 < wk.toNat ∨ 4096 < wg.toNat ∨
              wh.toNat < 1 ∨ 255 < wh.toNat ∨ wr.toNat < 1 ∨ 4096 < wr.toNat ∨ wc.toNat < 1024 ∨
              32767 < wc.toNat then .doneClamped else .done)
          [numWord k'.threshold, numWord k'.filterK, numWord k'.limitGain, numWord k'.holdTurns,
           numWord k'.releaseStep, wm, numWord k'.ceiling, numWord (codeOfShock k.state)])) ∧
    (k.state = .latched →
      exec (.shockClear [wp]) s = .next
        ((s.modPosn p fun x => { x with shock := { x.shock with state := .releasing } }).said 0x41 .done
          [numWord 3])) ∧
    (k.state ≠ .latched →
      exec (.shockClear [wp]) s = .next (s.said 0x41 .done [numWord (codeOfShock k.state)]))

/-- R143, R154: KEYMAP_SET replaces one entry of the key map whole and replies with the map; LINK_ARM
takes a driver in CONFLICT to DRIVING with its count 0, and changes nothing in DRIVING. -/
def Obligations.KeymapSetAndLinkArm : Prop :=
  ∀ s : State, s.accepts = true →
    (∀ (wk wr wa wd : Word) (k : Key) (r : ReportEdges) (a : MapAction) (d : Fin 8),
      keyOf wk = some k → reportOf wr = some r → actionOf wa = some a → debounceOf wd = some d →
      let m := s.keymap.setEntry k { report := r, action := a, debounce := d }
      exec (.keymapSet [wk, wr, wa, wd]) s = .next
        ({ s with keymap := m }.said 0x48 .done
          [mapWord m.mute, mapWord m.hold, mapWord m.volUp, mapWord m.volDown])) ∧
    (s.hlink.state = .conflict →
      exec (.linkArm []) s = .next
        ({ s with
            hlink := { state := .driving, foreignCount := 0 }
            flags := { s.flags with armed := true } }.said 0x50 .done [packBytes 0 2])) ∧
    (s.hlink.state = .driving →
      exec (.linkArm []) s = .next (s.said 0x50 .done [packBytes 0 2]))

/-! ## Turns -/

/-- R5, R10, R4, R70, R131: the turn of a position in TALK or a hold state without a close request. The
key actions are folded in list order, the wish goes to the target, an entered hold sets HOLD and the
pointer to 0, the floor and the hold counter move, and the rest of the part stands. That an entered hold also
sets to 0 the pointer at which the frame in progress still reads the source of before a POS_SET is the model's
reading (notes/assumptions/18.md). The turn of a CLOSED position, or of a CLOSING one whose gate is not shut
yet, discards the key actions. At frame 0 the suppressor's cycle start comes first (R73). -/
def Obligations.TurnOfATalkingPosition : Prop :=
  (∀ (s : State) (p : Position), s.turnReady p = true →
    (s.posn p).record.stored = .active → (s.posn p).record.closeReq = false →
    let x := s.posn p
    let q := s.profiles[x.inForce.params.nsProfile.val]
    let r := x.record.keys.foldl applyKeyAction x.record
    let enters := r.holdWish && !r.holdTarget
    ∃ t, exec (.positionTurn p) s = .next t ∧
      (t.posn p).record =
        { r with
          keys := [], holdTarget := r.holdWish, holdPtr := if enters then 0 else r.holdPtr
          muteTarget := !r.mute.key && !r.mute.mgmt && !r.mute.absent } ∧
      (t.posn p).ec.freeze = { x.ec.freeze with hold := x.ec.freeze.hold || enters } ∧
      (t.posn p).ns =
        { x.ns with
          floor := if x.ns.cycMin < x.ns.floor then max 1 x.ns.cycMin
            else min 32767 (x.ns.floor + max 1 (roundDiv x.ns.floor (2 ^ q.rise)).toNat)
          cycMin := 32767 } ∧
      (t.posn p).player = x.player ∧
      (t.posn p).inForce =
        { x.inForce with
          readPtr := if enters then x.inForce.readPtr.map fun _ => 0 else x.inForce.readPtr } ∧
      t.flags.turnDone = true ∧ s.sameOthers t p ∧ s.sameShared t) ∧
  (∀ (s : State) (p : Position), s.turnReady p = true → tearsDown (s.posn p).record = false →
    let k := (s.posn p).shock
    let r := (s.posn p).record
    ∃ t, exec (.positionTurn p) s = .next t ∧
      (r.stored = .closed ∨ r.stored = .closing →
        (t.posn p).record =
          { r with keys := [], muteTarget := !r.mute.key && !r.mute.mgmt && !r.mute.absent } ∧
        (t.posn p).player = (s.posn p).player) ∧
      s.sameOthers t p ∧ s.sameShared t ∧
      (k.state ≠ .limiting → (t.posn p).shock = k) ∧
      (k.state = .limiting → 2 ≤ k.hold → (t.posn p).shock = { k with hold := k.hold - 1 }) ∧
      (k.state = .limiting → k.hold ≤ 1 →
        exec (.shockHoldExpire p) s = .next t ∧
        (t.posn p).shock =
          { k with hold := 0, state := match k.mode with | .auto => .releasing | .latched => .latched })) ∧
  (∀ s : State, s.turnDue 0 = true → s.flags.profilesDone = false →
    exec (.positionTurn 0) s = exec (.positionTurn 0) s.profileCycle)

/-- R6, R7: the turn that leaves OPENING for TALK opens the output gate and starts the suppressor and
the canceller; the turn of a position with its close request set enters CLOSING instead. -/
def Obligations.OpeningExitAndClosingEntry : Prop :=
  (∀ (s : State) (p : Position), s.turnReady p = true →
    (s.posn p).record.stored = .opening → (s.posn p).record.closeReq = false →
    let x := s.posn p
    let m := x.record.mute
    ∃ t, exec (.openingExit p) s = .next t ∧ exec (.positionTurn p) s = .next t ∧
      (t.posn p).record =
        { x.record with
          stored := .active, outTarget := true, keys := []
          muteTarget := !m.key && !m.mgmt && !m.absent } ∧
      (t.posn p).ns =
        { env := 0, floor := (s.profiles[x.record.params.nsProfile.val]).initialFloor, cycMin := 32767
          gain := 4096 } ∧
      (t.posn p).ec.state =
        (if attachedCount (t.posn p).taps.elems = 0 then .off else .converging) ∧
      (t.posn p).ec.convCount = 0 ∧ (t.posn p).ec.divCount = 0 ∧ (t.posn p).ec.resetCount = 0 ∧
      (t.posn p).ec.freeze = x.ec.freeze ∧ (t.posn p).player = x.player ∧
      s.sameOthers t p ∧ s.sameShared t) ∧
  (∀ (s : State) (p : Position), s.turnReady p = true →
    (s.posn p).record.stored = .opening ∨ (s.posn p).record.stored = .active →
    (s.posn p).record.closeReq = true →
    let x := s.posn p
    let m := x.record.mute
    ∃ t, exec (.closingEntry p) s = .next t ∧ exec (.positionTurn p) s = .next t ∧
      (t.posn p).record =
        { x.record with
          stored := .closing, closeReq := false, outTarget := false, holdWish := false
          holdTarget := false, keys := [], muteTarget := !m.key && !m.mgmt && !m.absent } ∧
      (t.posn p).ec.freeze = x.ec.freeze ∧ (t.posn p).player = x.player ∧
      s.sameOthers t p ∧ s.sameShared t)

/-- R31, R32: the tail change of a turn other than the teardown's. A grow attaches every reserved block
with its coefficients 0; a shrink cuts the list and appends what it cut to the tail of the free list
(that the free blocks then hold 0 is the model's choice, notes/assumptions/24.md). The kept blocks keep
their coefficients unless the turn resets them (R52). A window that becomes empty turns the canceller
OFF, and one that ceases to be empty starts it. -/
def Obligations.TailChangesAreAppliedAtTheTurn : Prop :=
  ∀ (s : State) (p : Position) (c : TailChange), s.turnReady p = true →
    tearsDown (s.posn p).record = false → (s.posn p).taps.change = some c →
    let x := s.posn p
    let kept := if (verdictAt p x).zero then zeroTaps x.taps.elems else x.taps.elems
    let zeroed : TapBlock → TapBlock := fun b => { b with coefs := List.replicate 64 0 }
    ∃ t, exec (.tailChangeApply p) s = .next t ∧ exec (.positionTurn p) s = .next t ∧
      (t.posn p).taps.change = none ∧
      (c = .grow →
        (t.posn p).taps.elems =
          kept.map (fun e => if e.attached then e else { block := zeroed e.block, attached := true }) ∧
        t.freeTaps = s.freeTaps) ∧
      (∀ n : Nat, c = .shrink n →
        (t.posn p).taps.elems = kept.take n ∧
        t.freeTaps = s.freeTaps ++ (x.taps.elems.drop n).map fun e => zeroed e.block) ∧
      (x.record.stored = .active ∨ x.record.stored = .closing →
        (attachedCount x.taps.elems ≠ 0 → attachedCount (t.posn p).taps.elems = 0 →
          (t.posn p).ec.state = .off ∧ (t.posn p).ec.power = 0 ∧ (t.posn p).ec.winMax = 0) ∧
        (attachedCount x.taps.elems = 0 → attachedCount (t.posn p).taps.elems ≠ 0 →
          (t.posn p).ec.state = .converging ∧ (t.posn p).ec.convCount = 0 ∧
          (t.posn p).ec.divCount = 0 ∧ (t.posn p).ec.resetCount = 0)) ∧
      s.sameOthers t p ∧ s.sameShared t

/-- R8: the teardown, step by step. The blocks go to the tail of the free list (that they then hold
coefficients 0 is the model's choice, notes/assumptions/24.md), the canceller becomes OFF with its counts and
its hangover counter 0, and each queued entry with its notify flag on
raises PROMPT_DROPPED with cause CLOSE, head to tail, with the passes it has completed, which are 0 of every
entry but the head. That the CLIP_FREED events stand after all PROMPT_DROPPED events is the model's reading of
the steps' order (notes/assumptions/23.md). -/
def Obligations.TeardownClosesThePosition : Prop :=
  ∀ (s : State) (p : Position), s.turnReady p = true →
    (s.posn p).record.stored = .closing → (s.posn p).record.wo = 0 → (s.posn p).taps.change = none →
    let x := s.posn p
    let keep : List Route → List Route := fun l =>
      l.filter fun y => !(decide (y.pair.src = p) || decide (y.pair.dst = p))
    let da := s.routes.active.length - (keep s.routes.active).length
    let db := s.routes.shadow.length - (keep s.routes.shadow).length
    let dropped : List Event := match x.player.queue with
      | [] => []
      | e :: rest =>
        (if e.notify then [.promptDropped p e.clip x.player.passes .close] else []) ++
          (rest.filter fun d => d.notify).map fun d => .promptDropped p d.clip 0 .close
    let held : List ClipId := x.player.queue.map (fun e => e.clip) ++
      (match x.record.params.holdSource with
        | .prog _ => []
        | .clip c => [c])
    let freed := releaseUses s.store held
    ∃ t, exec (.teardown p) s = .next t ∧ exec (.positionTurn p) s = .next t ∧
      (t.posn p).record =
        { x.record with
          stored := .closed, keys := [], holdPtr := 0
          params := { x.record.params with holdSource := .prog 0 }
          mute := { key := false, mgmt := false, absent := x.record.mute.absent }
          muteTarget := !x.record.mute.absent } ∧
      (t.posn p).taps = { elems := [], change := none } ∧
      t.freeTaps = s.freeTaps ++
        x.taps.elems.map (fun e => ({ e.block with coefs := List.replicate 64 0 } : TapBlock)) ∧
      t.routes = { s.routes with active := keep s.routes.active, shadow := keep s.routes.shadow } ∧
      (t.posn p).player =
        { state := .idle, queue := [], readPtr := 0, remaining := 0, passes := 0, wd := x.player.wd
          duckLevel := 4096, startPending := false } ∧
      (t.posn p).shock = { x.shock with state := .normal, sg := 4096, overCount := 0, hold := 0 } ∧
      (t.posn p).ec.state = .off ∧ (t.posn p).ec.hangover = 0 ∧ (t.posn p).ec.convCount = 0 ∧
      (t.posn p).ec.divCount = 0 ∧ (t.posn p).ec.resetCount = 0 ∧
      (t.posn p).ec.report = .cleared ∧ (t.posn p).ec.unread = false ∧
      (t.posn p).ec.freeze = { hold := false, mgmt := false, link := x.ec.freeze.link } ∧
      t.store = freed.1 ∧
      (s.events.length + 2 * x.player.queue.length + 3 ≤ 64 →
        t.events = s.events ++ (if da = 0 ∧ db = 0 then [] else [.routesDropped p da db]) ++
          dropped ++ freed.2 ++ [.posClosed p]) ∧
      s.sameOthers t p

/-- R48 to R53, R58, R59: the ERLE band; and the turn of a position in TALK or a hold state. A counted turn
(R50) raises the divergence count where it is divergent, and sets it to 0 where it is not; at 2 it resets the
coefficients, with the bypass at the third reset, and reports that; otherwise, in CONVERGING, a band at or
above the setting raises the convergence count, at 4 to CONVERGED, and a band below it sets the count to 0. A
turn that is not counted moves none of these. The sums restart, and the echo report of the ended cycle is
captured: in SINGLE mode only where the unread flag is clear. D is that of the parameters in force in the
ended cycle's last frame (the model's reading, notes/assumptions/15.md), the convergence band and the capture
mode those of the record (notes/assumptions/16.md). -/
def Obligations.CancellerConvergesAndDiverges : Prop :=
  (∀ (sumD sumE k : Nat), 0 < sumD → 1 ≤ k → k ≤ 15 →
    (k ≤ erleBand sumD sumE ↔ sumE * 2 ^ k ≤ sumD)) ∧
  (∀ sumD sumE : Nat, erleBand sumD sumE ≤ 15 ∧ erleBand 0 sumE = 0) ∧
  (∀ (s : State) (p : Position), s.turnReady p = true →
    (s.posn p).record.stored = .active → (s.posn p).taps.change = none →
    let x := s.posn p
    let c := x.ec
    let band := erleBand c.sumD c.sumE
    let isCounted : Prop := (c.state = .converging ∨ c.state = .converged) ∧
      c.freezeEnd = { hold := false, mgmt := false, link := false } ∧
      x.inForce.params.regR * 65536 ≤ c.power ∧ 0 < c.sumD
    let diverging : Prop := 2 * c.sumD < c.sumE ∧ 2097152 ≤ c.sumE
    let resets : Prop := isCounted ∧ diverging ∧ 1 ≤ c.divCount
    ∃ t, exec (.positionTurn p) s = .next t ∧
      (let d := (t.posn p).ec
       d.sumD = 0 ∧ d.sumE = 0 ∧ d.dtFrames = 0 ∧
       (resets →
        exec (.ecDiverged p) s = .next t ∧
        d.state = (if c.resetCount + 1 < 3 then .converging else .bypass) ∧ d.convCount = 0 ∧
        d.divCount = 0 ∧ d.resetCount = min 3 (c.resetCount + 1) ∧
        (t.posn p).taps.elems = x.taps.elems.map (fun e =>
          if e.attached then { e with block := { e.block with coefs := List.replicate 64 0 } } else e) ∧
        (s.events.length + 2 ≤ 64 →
          t.events = s.events ++
            (if c.resetCount + 1 < 3 then [.ecDiverged p (c.resetCount + 1)]
            else [.ecDiverged p 3, .ecBypassed p]))) ∧
       (¬ resets → (t.posn p).taps = x.taps) ∧
       (isCounted → ¬ resets → (diverging → d.divCount = 1) ∧ (¬ diverging → d.divCount = 0)) ∧
       (isCounted → ¬ resets → c.state = .converging → x.record.params.convBand ≤ band → 3 ≤ c.convCount →
        exec (.ecConverged p) s = .next t ∧
        d.state = .converged ∧ d.convCount = 0 ∧ d.resetCount = 0 ∧
        (s.events.length < 64 → t.events = s.events ++ [.ecConverged p band])) ∧
       (isCounted → ¬ resets → c.state = .converging → x.record.params.convBand ≤ band → c.convCount < 3 →
        d.state = .converging ∧ d.convCount = c.convCount + 1 ∧ d.resetCount = c.resetCount ∧
        t.events = s.events) ∧
       (isCounted → ¬ resets → c.state = .converging → band < x.record.params.convBand →
        d.state = .converging ∧ d.convCount = 0 ∧ d.resetCount = c.resetCount ∧ t.events = s.events) ∧
       (isCounted → ¬ resets → c.state = .converged →
        d.state = .converged ∧ d.convCount = c.convCount ∧ d.resetCount = c.resetCount ∧
        t.events = s.events) ∧
       (¬ isCounted →
        d.state = c.state ∧ d.convCount = c.convCount ∧ d.divCount = c.divCount ∧
        d.resetCount = c.resetCount ∧ t.events = s.events) ∧
       (x.record.params.capture = .single ∧ c.unread = true → d.report = c.report ∧ d.unread = true) ∧
       (x.record.params.capture = .auto ∨ c.unread = false →
        let coefs := tapCoefs (t.posn p).taps.elems
        let size : Nat → Nat := fun i => (coefs.getD i 0).toInt.natAbs
        let energy : Nat → Nat := fun n => min 4294967295 (roundDiv n 256).toNat
        d.unread = true ∧ d.report.state = d.state ∧ d.report.freeze = d.freeze ∧ d.report.band = band ∧
        d.report.returnEnergy = energy c.sumD ∧ d.report.residualEnergy = energy c.sumE ∧
        d.report.dtFrames = c.dtFrames ∧ d.report.resetCount = d.resetCount ∧
        (∀ i : Nat, d.report.peakTap = some i ↔
          i < coefs.length ∧ 0 < size i ∧ (∀ j < i, size j < size i) ∧ ∀ j < coefs.length, size j ≤ size i) ∧
        d.report.peakCoef = (match d.report.peakTap with
          | none => 0
          | some i => coefs.getD i 0))) ∧
      s.sameOthers t p ∧ s.sameShared t)

/-! ## Frames -/

/-- FRAME does what is due and then computes. R150, R167: the end of LOST and a due reset. R162, R102, R73,
R87, R5: a waiting message, the cycle start of a frame numbered 0 and the turn of the frame's position, each
as its own command does it before FRAME (that FRAME does what no command has done yet, in this order, is the
model's choice, notes/assumptions/6.md; R127: of a position torn down, the player may make its frame first; a
waiting message may also be left until after the computation, and the indicator word of a frame is formed at
the one of three moments that the order names, notes/assumptions/29.md).
R3, R97, R123: the three gate weights of every position step toward their targets, the duck weight toward 32
or 0, and the hold pointer advances with h above 0, through the clip in view; the pointer of a source that a
POS_SET has just written stands (notes/assumptions/18.md). R4: HOLD_LEAVE_COMPLETE is the frame in which h
reaches 0 with its target 0. R146, R12, R20, R87, R102, R104: a frame that closes is followed by the next
number, which uses the routes, programme states, fallback clip, clip table, parameters and volume indices
that then stand (what a frame takes over, and when, is notes/assumptions/9.md). A frame whose computation has
been made takes a message that can be taken and closes, or stays as it is (notes/assumptions/7.md). -/
def Obligations.FrameDoesItsWorkAndStepsTheWeights : Prop :=
  let ended : State → State := fun u =>
    { u with
      timer := { u.timer with number := u.timer.number + 1 }
      pos := Vector.ofFn fun p : Fin 32 =>
        let x := u.posn p
        { x with
          ec := { x.ec with freezeEnd := x.ec.freeze }
          inForce := { params := x.record.params, volume := x.record.volume, readPtr := none } }
      latch :=
        { routes := u.routes.active, sounding := u.progs.map fun g => g.sounding, fallback := u.fallback
          clips := u.store.clips, indicator := u.indicatorFor (u.timer.number + 1) }
      cmdUnit := if u.cmdUnit = .heldResetReplyGone then .heldResetDue else u.cmdUnit
      flags := { FrameFlags.fresh with lostEnded := decide (u.tlink.state = .lost) } }
  (∀ (s : State) (inp : FrameInputs), s.resetLow = false → s.flags.computed = false →
    (∀ t, s.tlink.state = .lost → s.flags.lostEnded = true → exec .tlinkLostExpire s = .next t →
      exec (.frame inp) s = exec (.frame inp) t) ∧
    (∀ t, s.cmdUnit = .heldResetDue → exec .devResetPerform s = .next t →
      exec (.frame inp) s = exec (.frame inp) t)) ∧
  (∀ (s : State) (inp : FrameInputs), s.begun = true →
    (inp.order.messageLast = false → s.framesAs s.takeHead inp) ∧
    (inp.order.messageLast = true → inp.order.closes = true → s.inputQueue ≠ [] →
      ∃ t, exec (.frame { inp with order := { inp.order with closes := false } }) s = .next t ∧
        t.flags.computed = true ∧ exec (.frame inp) s = exec (.frame inp) t)) ∧
  (∀ (s t : State) (inp : FrameInputs), s.begun = true →
    s.takeHead = s ∨ inp.order.messageLast = true → s.timer.number = 0 →
    runAll [.cycleStart, .profilePendingApply, .routeCommitApply] s = .next t → s.framesAs t inp) ∧
  (∀ (s t : State) (inp : FrameInputs), s.begun = true →
    s.takeHead = s ∨ inp.order.messageLast = true → s.cycleDone = true →
    let p := s.timer.number
    let x := s.posn p
    (inp.order.playersBeforeTurn = false ∨ x.record.stored ≠ .closing ∨ x.record.wo ≠ 0 →
      exec (.positionTurn p) s = .next t → s.framesAs t inp) ∧
    (inp.order.playersBeforeTurn = true → x.record.stored = .closing → x.record.wo = 0 →
      let f := playerOutput x.player s.store
      let played := s.modPosn p fun y => { y with player := f.player }
      let ahead := match f.completed with
        | none => played
        | some (e, n) =>
          if e.notify then (played.raise (.promptDone p e.clip n)).releaseUse (some .players) e.clip
          else played.releaseUse none e.clip
      s.flags.turnDone = false → exec (.positionTurn p) ahead = .next t → s.framesAs t inp)) ∧
  (∀ (s : State) (inp : FrameInputs), s.resetLow = false → s.flags.computed = true →
    (inp.order.closes = false → exec (.frame inp) s = .next s) ∧
    (inp.order.closes = true →
      exec (.frame inp) s = exec (.frame inp) s.takeHead ∧
      (s.takeHead = s → ∃ events : List Event, events.length = s.events.length ∧
        s.events.take (s.events.length - s.flags.runs.length) <+: events ∧
        exec (.frame inp) s = .next (ended { s with events := events })))) ∧
  (∀ (s : State) (inp : FrameInputs), s.settled = true →
    ∃ t, exec (.frame inp) s = .next (if inp.order.closes then ended t else t) ∧
      t.timer = s.timer ∧ t.latch = s.latch ∧ t.flags.computed = true ∧
      (∀ p : Position,
        let x := s.posn p
        let y := t.posn p
        let toward : Nat → Bool → Nat := fun w on =>
          if on then (if w < 32 then w + 1 else if 32 < w then w - 1 else w) else w - 1
        let inView : Option ClipId := match x.inForce.params.holdSource with
          | .clip c => some c
          | .prog _ => s.latch.fallback
        let ptr := x.record.holdPtr
        let advanced : Nat := match inView with
          | none => if 524288 ≤ ptr + 1 then 0 else ptr + 1
          | some c =>
            let n := (s.latch.clips[c.val]).length
            if n ≤ (if n ≤ ptr then 0 else ptr) + 1 then 0 else (if n ≤ ptr then 0 else ptr) + 1
        y.record =
          { x.record with
            wo := toward x.record.wo x.record.outTarget
            h := toward x.record.h x.record.holdTarget
            wm := toward x.record.wm x.record.muteTarget
            holdPtr :=
              if x.record.stored = .closed ∨ toward x.record.h x.record.holdTarget = 0 ∨
                x.inForce.readPtr ≠ none then ptr
              else advanced } ∧
        y.inForce = x.inForce ∧
        y.player.wd = toward x.player.wd (decide (y.player.state ≠ .idle)) ∧
        y.blocks = x.blocks) ∧
      (∀ p : Position, (s.posn p).record.stored ≠ .closing → (s.posn p).record.holdTarget = false →
        (s.posn p).record.h = 1 →
        exec (.holdLeaveComplete p inp) s = .next (if inp.order.closes then ended t else t) ∧
        (t.posn p).ec.freeze.hold = false))

/-- R149, R148, R151, R153, R144: the frames driven in a frame carry the audio computed two frames
before and the indicator word of the frame's H-slot as it stands at the one of three moments that the order
names (notes/assumptions/29.md); the T-link's audio is 0 while the trunk is not UP, and the H-link is not
driven in CONFLICT, nor, R154, in the frame of a LINK_ARM that ended one. R165: GAP while the
trunk is not UP; else the next symbol of the message in transmission, of which the last is its TAIL, with
which the message leaves its list and one GAP is owed; an owed GAP; or the HEAD of the oldest reply, before
any event; or that of the oldest event. MESSAGE_SENT is the frame of the TAIL. Which messages placed in the
frame itself are candidates is the order's choice (notes/assumptions/27.md): none of them; those of its events
that depend on no reply of the frame, which is every event of the computation where no message has been taken
in it; or all. R170: where a frame closes after its computation, its events keep the order of each block's own
run, whatever the order of the runs, and, R114, CLIP_FREED stays behind the event of its own cause (whose
events they are: notes/assumptions/41.md). Where the queue was full, the events that come last in that order
are the ones that are lost, and their number stands. -/
def Obligations.FrameDrivesTheLinks : Prop :=
  (∀ (s : State) (inp : FrameInputs), s.resetLow = false → s.flags.computed = true →
    inp.order.closes = true → s.takeHead = s → s.arbiter.tx = none →
    s.flags.runs.length ≤ s.events.length →
    let old := s.events.length - s.flags.runs.length
    let raised := s.flags.runs.zip (s.events.drop old) ++ s.flags.lost
    ∃ (t : State) (ordered : List (EventRun × Event)), exec (.frame inp) s = .next t ∧
      ordered.Perm raised ∧
      t.events = s.events.take old ++ (ordered.take s.flags.runs.length).map Prod.snd ∧
      t.eventsLost = s.eventsLost ∧
      (∀ b : EventBlock,
        ordered.filter (fun x => x.1.block = b) = raised.filter fun x => x.1.block = b) ∧
      ∀ (before : List (EventRun × Event)) (x : EventRun × Event) (after : List (EventRun × Event)),
        ordered = before ++ x :: after →
        ∃ before' after', raised = before' ++ x :: after' ∧
          before.filter (fun y => y.1.block = x.1.block) =
            before'.filter (fun y => y.1.block = x.1.block) ∧
          ∀ c : EventBlock, x.1.behind = some c →
            before'.filter (fun y => y.1.block = c) <+: before.filter fun y => y.1.block = c) ∧
  ∀ (s : State) (inp : FrameInputs), s.settled = true →
    ∃ (t : State) (f : TFrame), exec (.frame inp) s = .next t ∧ t.outputs.tFrame = some f ∧
      f.marker.toNat = 0x74B * 32 + s.timer.number.val ∧
      f.audio = (if s.tlink.state = .up then s.outputs.earlier.trunk else Vector.replicate 32 0) ∧
      f.programmes = Vector.replicate 4 0 ∧
      t.outputs.earlier = s.outputs.computed ∧
      (s.hlink.state = .conflict ∨ s.flags.armed = true → t.outputs.hFrame = none) ∧
      (s.hlink.state = .driving → s.flags.armed = false →
        let shown : State → Word := fun u =>
          match (List.finRange 32).find? fun p => (u.posn p).record.hSlot = some s.timer.number with
          | none => 0
          | some p =>
            let x := u.posn p
            BitVec.ofNat 16
              (16 * bit (x.record.stored ≠ .closed) +
                8 * bit (x.record.mute.key || x.record.mute.mgmt || x.record.mute.absent) +
                4 * bit x.record.holdTarget + 2 * bit (x.player.state ≠ .idle) +
                bit (x.shock.state ≠ .normal))
        ∃ g : HFrame, t.outputs.hFrame = some g ∧ g.marker = f.marker ∧
          g.audio = s.outputs.earlier.ear ∧
          g.indicator = (match inp.order.indicator with
            | .frameStart => s.latch.indicator
            | .beforeWork => shown s
            | .afterWork => shown t)) ∧
      (s.tlink.state ≠ .up →
        f.tag = 0 ∧ f.data = 0 ∧ t.replies = s.replies ∧
        t.arbiter = { s.arbiter with owed := s.arbiter.owed - 1 }) ∧
      (s.tlink.state = .up →
        (∀ (r : Reply) (rest : List Reply) (n : Nat), s.replies = r :: rest →
          s.arbiter.tx = some { isReply := true, sent := n } →
          (n = (replyMessage r).body.length + 1 →
            exec (.messageSent inp) s = .next t ∧ f.tag = 0x1E03 ∧
            f.data = checkWord (replyMessage r).kind (replyMessage r).body ∧ t.replies = rest ∧
            t.arbiter = { tx := none, owed := 1 }) ∧
          (1 ≤ n → n ≤ (replyMessage r).body.length →
            f.tag = 0x1E02 ∧ f.data = (replyMessage r).body.getD (n - 1) 0 ∧ t.replies = s.replies ∧
            t.arbiter = { tx := some { isReply := true, sent := n + 1 }, owed := 0 })) ∧
        (∀ (e : Event) (rest : List Event) (n : Nat), s.events = e :: rest →
          s.arbiter.tx = some { isReply := false, sent := n } →
          t.replies = s.replies ∧
          (n = (eventMessage e).body.length + 1 →
            exec (.messageSent inp) s = .next t ∧ f.tag = 0x1E03 ∧
            f.data = checkWord (eventMessage e).kind (eventMessage e).body ∧
            rest.take (rest.length - s.flags.runs.length) <+: t.events ∧ rest.length ≤ t.events.length ∧
            t.arbiter = { tx := none, owed := 1 }) ∧
          (1 ≤ n → n ≤ (eventMessage e).body.length →
            f.tag = 0x1E02 ∧ f.data = (eventMessage e).body.getD (n - 1) 0 ∧
            (∃ more, t.events = e :: more) ∧
            t.arbiter = { tx := some { isReply := false, sent := n + 1 }, owed := 0 })) ∧
        (s.arbiter.tx = none → 0 < s.arbiter.owed →
          f.tag = 0 ∧ f.data = 0 ∧ t.replies = s.replies ∧
          t.arbiter = { tx := none, owed := s.arbiter.owed - 1 }) ∧
        (s.arbiter.tx = none → s.arbiter.owed = 0 →
          (∀ (r : Reply) (rest : List Reply), s.replies = r :: rest →
            inp.order.choice = .last ∨ s.flags.newReplies < s.replies.length →
            f.tag = 0x1E01 ∧ f.data = BitVec.ofNat 16 (0x8000 + (1 + r.results.length)) ∧
            t.replies = s.replies ∧
            t.arbiter = { tx := some { isReply := true, sent := 1 }, owed := 0 }) ∧
          (s.replies = [] ∨ (inp.order.choice ≠ .last ∧ s.replies.length ≤ s.flags.newReplies) →
            t.replies = s.replies ∧
            (∀ (e : Event) (rest : List Event), s.events = e :: rest →
              s.flags.runs.length < s.events.length →
              f.tag = 0x1E01 ∧ f.data = BitVec.ofNat 16 (0x8100 + (eventMessage e).body.length) ∧
              (∃ more, t.events = e :: more) ∧
              t.arbiter = { tx := some { isReply := false, sent := 1 }, owed := 0 }) ∧
            (inp.order.choice = .first → s.events.length ≤ s.flags.runs.length →
              f.tag = 0 ∧ f.data = 0 ∧ t.arbiter = s.arbiter) ∧
            (inp.order.choice = .last ∨ (inp.order.choice = .between ∧ s.events = [] ∧
                s.flags.runs = [] ∧ s.flags.lost = [] ∧ s.flags.taken = none) →
              (t.events = [] → f.tag = 0 ∧ f.data = 0 ∧ t.arbiter = s.arbiter) ∧
              (∀ (e : Event) (more : List Event), t.events = e :: more →
                f.tag = 0x1E01 ∧ f.data = BitVec.ofNat 16 (0x8100 + (eventMessage e).body.length) ∧
                t.arbiter = { tx := some { isReply := false, sent := 1 }, owed := 0 })))))

/-- R37 to R44, R46, R48: the canceller's frame. The send sample enters the reference history, P and M are
formed over the window and are 0 in OFF, double talk sets the hangover counter, which falls by 1 without it,
and is counted, the sums gain the squares of the return sample and of the residual, which is 0 in every state
while the trunk is not UP (R47; notes/assumptions/34.md), and where the gate of R43 is open every attached
coefficient takes its update; else, as in a frozen canceller, the coefficients stand. HANGOVER_EXPIRE is the
frame in which the hangover counter reaches 0, here with a return sample of 0, which is no double talk while
the ratio is not 0. The lengths of the block and history lists are a law that every step keeps. -/
def Obligations.CancellerRunsItsFrame : Prop :=
  ∀ (s : State) (inp : FrameInputs), s.settled = true →
    ∃ t, exec (.frame inp) s = .next t ∧ ∀ p : Position,
      let x := s.posn p
      let c := x.ec
      let n := (t.posn p).ec
      let q := x.inForce.params
      let d := s.returnSample inp x
      let e := s.residualIn t inp p
      let window := n.hist.take (64 * (x.taps.elems.filter fun b => b.attached).length)
      let magnitude : Word → Nat := fun w => w.toInt.natAbs
      let detected : Prop :=
        c.state ≠ .off ∧ (q.dtRatio = 0 ∨ q.dtRatio * n.winMax < d.natAbs * 4096)
      let adapts : Prop := (c.state = .converging ∨ c.state = .converged) ∧
        n.freeze = { hold := false, mgmt := false, link := false } ∧ ¬ detected ∧ n.hangover = 0 ∧
        q.regR * 65536 ≤ n.power ∧ 0 < q.stepM
      (∃ w : Word, n.hist = (w :: c.hist).take 1024 ∧
        (x.record.stored = .closed → w = 0) ∧
        (∀ k : Slot, x.record.stored ≠ .closed → x.record.hSlot ≠ none → s.tOwner k = some p →
          t.outputs.computed.trunk[k.val] = w)) ∧
      (c.state = .off → n.power = 0 ∧ n.winMax = 0) ∧
      (c.state ≠ .off →
        n.power = (window.map fun w => magnitude w * magnitude w).sum ∧
        (∀ w ∈ window, magnitude w ≤ n.winMax) ∧
        (n.winMax = 0 ∨ ∃ w ∈ window, magnitude w = n.winMax)) ∧
      (detected → n.hangover = q.hangoverFrames ∧ n.dtFrames = min 32 (c.dtFrames + 1)) ∧
      (c.state ≠ .off → ¬ detected → n.hangover = c.hangover - 1 ∧ n.dtFrames = c.dtFrames) ∧
      (c.state = .off → n.hangover = c.hangover ∧ n.dtFrames = c.dtFrames) ∧
      (x.record.stored = .closed → n.sumD = c.sumD ∧ n.sumE = c.sumE) ∧
      (x.record.stored ≠ .closed →
        n.sumD = c.sumD + d.natAbs * d.natAbs ∧ n.sumE = c.sumE + e.natAbs * e.natAbs) ∧
      (¬ adapts → (t.posn p).taps = x.taps) ∧
      (adapts → c.hist.length = 1024 → x.taps.elems.length ≤ 16 →
        (∀ b ∈ x.taps.elems, b.block.coefs.length = 64) →
        let f := saturate (-2147483648) 2147483647
          (roundDiv (q.stepM * e * 4194304) (n.power + q.regR * 65536))
        tapCoefs (t.posn p).taps.elems =
          List.zipWith (fun h w => wordOfSample (satSample (h.toInt + roundDiv (f * w.toInt) 32768)))
            (tapCoefs x.taps.elems) n.hist ∧
        (t.posn p).taps.elems.map (fun b => (b.block.index, b.attached)) =
          x.taps.elems.map (fun b => (b.block.index, b.attached))) ∧
      n.state = c.state ∧ n.convCount = c.convCount ∧ n.divCount = c.divCount ∧
      n.resetCount = c.resetCount ∧ n.report = c.report ∧ n.unread = c.unread ∧
      (c.state ≠ .off → d = 0 → q.dtRatio ≠ 0 → c.hangover = 1 →
        exec (.hangoverExpire p inp) s = .next t ∧ n.hangover = 0)

/-- R121, R122: the frame whose read is the last of the head's clip. With passes left the read begins
again; after the last the next entry becomes the head without start pending, or the player becomes
IDLE. Where no other position runs, the completed entry lets go of its clip and gives PROMPT_DONE. -/
def Obligations.PromptPassesComplete : Prop :=
  ∀ (s : State) (inp : FrameInputs) (p : Position) (e : PromptEntry) (rest : List PromptEntry),
    s.settled = true → (s.posn p).record.stored ≠ .closed →
    let pl := (s.posn p).player
    pl.queue = e :: rest → pl.state ≠ .idle → pl.startPending = false →
    (s.store.clip e.clip).length ≤ pl.readPtr + 1 →
    let n := min 255 (pl.passes + 1)
    let wd := if pl.wd < 32 then pl.wd + 1 else if 32 < pl.wd then pl.wd - 1 else pl.wd
    let again := pl.state = .playing ∧ (e.repeats = 0 ∨ 2 ≤ pl.remaining)
    ∃ t, exec (.promptPassComplete p inp) s = .next t ∧ exec (.frame inp) s = .next t ∧
      (pl.state = .playing → e.repeats = 0 →
        (t.posn p).player = { pl with readPtr := 0, passes := n, wd := wd }) ∧
      (pl.state = .playing → e.repeats ≠ 0 → 2 ≤ pl.remaining →
        (t.posn p).player =
          { pl with readPtr := 0, passes := n, remaining := pl.remaining - 1, wd := wd }) ∧
      (¬ again → rest = [] →
        (t.posn p).player =
          { pl with
            state := .idle, queue := [], readPtr := 0, remaining := 0, passes := 0, wd := pl.wd - 1
            startPending := false }) ∧
      (∀ (d : PromptEntry) (ds : List PromptEntry), ¬ again → rest = d :: ds →
        (t.posn p).player =
          { pl with
            state := .playing, queue := d :: ds, readPtr := 0, remaining := d.repeats, passes := 0
            wd := wd, duckLevel := d.duck, startPending := false }) ∧
      (¬ again → (∀ q : Position, q ≠ p → (s.posn q).record.stored = .closed) →
        t.store = (s.store.releaseUse e.clip).1 ∧
        (e.notify = true → s.arbiter.tx = none → s.flags.lost = [] → s.events.length + 4 ≤ 64 →
          Event.promptDone p e.clip n ∈ t.events))

/-- R92, R93, R129: the gated sample o of a position that is not CLOSED: the ear mix of residual, sidetone,
prompt and routes, through the volume gain of the index in force and the output gate. The residual is 0 while
the trunk is not UP (notes/assumptions/34.md), and the duck level is that of the head as it stands
(notes/assumptions/37.md). R130, R132, R133: its
protection follows the rules on o, SHOCK_ON is raised where it enters LIMITING, with the volume index, limit
gain and mode that then stand (notes/assumptions/25.md), SHOCK_OFF where the ramp ends, and neither elsewhere;
an ear slot never leaves the ceiling. Where the position hears its
return sample alone (no hold, prompt, sidetone, route or estimate, at full gate and index 10), o is that
sample: SHOCK_ON is the frame that fills the over-count, SHOCK_OFF the one in which the gain is back at 4096. -/
def Obligations.ShockStageFollowsTheEar : Prop :=
  ∀ (s : State) (inp : FrameInputs) (p : Position), s.settled = true →
    (s.posn p).record.stored ≠ .closed →
    let x := s.posn p
    let k := x.shock
    ∃ t, exec (.frame inp) s = .next t ∧
      (let pl := (t.posn p).player
       let duck := 4096 - roundDiv ((4096 - (pl.duckLevel : Int)) * pl.wd) 32
       let weight := roundDiv (duck * (32 - ((t.posn p).record.h : Int))) 32
       let prompt : Int := match x.player.queue with
        | [] => 0
        | e :: _ =>
          if x.player.state = .idle ∨ x.player.startPending = true then 0
          else satSample (roundDiv
            ((memRead s.store.mem ((s.store.clip e.clip).start + x.player.readPtr)).toInt * e.gain) 4096)
       let mix := satSample (roundDiv
        (s.residualIn t inp p * weight + s.uplinkIn t inp p * x.inForce.params.sidetone + prompt * 4096 +
          s.routedIn t inp .ear p) 4096)
       let gain := ([410, 516, 649, 817, 1029, 1295, 1631, 2053, 2584, 3254, 4096, 5157, 6492, 8173,
        10289, 12953] : List Nat).getD x.inForce.volume 12953
       let o := roundDiv (satSample (roundDiv (mix * gain) 4096) * (t.posn p).record.wo) 32
       let n := if k.threshold ≤ o.natAbs then min 16 (k.overCount + 1) else 0
       let hit : Bool := decide (k.filterK ≤ n)
       let enters := hit && (decide (k.state = .normal) || decide (k.state = .releasing))
       let g := min 4096 (k.sg + k.releaseStep)
       let k' := (t.posn p).shock
       k' =
        (if enters then
          { k with state := .limiting, sg := k.limitGain, hold := k.holdTurns, overCount := 0 }
        else if hit ∧ k.state = .limiting then { k with hold := k.holdTurns, overCount := 0 }
        else if k.state = .releasing then
          { k with overCount := n, sg := g, state := if g = 4096 then .normal else .releasing }
        else { k with overCount := if hit then 0 else n }) ∧
       (s.arbiter.tx = none → s.flags.lost = [] → t.eventsLost = s.eventsLost → s.eventsLost < 65535 →
        (enters = true → Event.shockOn p x.record.volume k.limitGain k.mode ∈ t.events) ∧
        (enters = false → k.state = .releasing → g = 4096 → Event.shockOff p ∈ t.events)) ∧
       (s.flags.lost = [] →
        (∀ (v w : Nat) (m : ShockMode), Event.shockOn p v w m ∈ t.events →
          Event.shockOn p v w m ∈ s.events ∨
            (enters = true ∧ v = x.record.volume ∧ w = k.limitGain ∧ m = k.mode)) ∧
        (Event.shockOff p ∈ t.events →
          Event.shockOff p ∈ s.events ∨ (enters = false ∧ k.state = .releasing ∧ g = 4096))) ∧
       (∀ j : Slot, s.hOwner j = some p → x.record.tSlot ≠ none →
         t.outputs.computed.ear[j.val] =
           wordOfSample (saturate (-(k.ceiling : Int)) k.ceiling (roundDiv (o * k'.sg) 4096))) ∧
       (s.tlink.state = .up → x.ec.state = .off ∨ x.ec.state = .bypass → x.record.h = 0 →
        x.record.holdTarget = false → x.record.wo = 32 → x.record.outTarget = true →
        x.player.queue = [] → x.player.state = .idle → x.player.wd = 0 →
        x.inForce.params.sidetone = 0 → x.inForce.volume = 10 →
        (∀ r ∈ s.latch.routes, ¬ (r.pair.dstKind = .ear ∧ r.pair.dst = p)) →
        ∀ j : Slot, x.record.tSlot = some j →
          o = (inp.returns[j.val]).toInt ∧
          (enters = true → exec (.shockOn p inp) s = .next t) ∧
          (enters = false → k.state = .releasing → g = 4096 → exec (.shockOff p inp) s = .next t)))

/-- R66 to R68: the frame of a suppressor: envelope, cycle minimum, and the gain toward the curve's target of
the band. R91, R96 to R98: the send of a position in a trunk slot: the talk mix of its uplink and the routes
into it, crossfaded by h with the hold input through the hold gain, through the output gate; a CLOSED position
sends 0. The hold input is that of the source in force, read at the pointer (that a POS_SET leaves the frame's
reading as it was is notes/assumptions/18.md). That the frame uses no route that R82 forbids is part of the
law of the route tables, which every step keeps. R101: a programme sample above its threshold sets that
programme's loud flag, with the samples 0 while the trunk is not UP. R69, R76: in TALK, with the profile in bypass, both gates full
and no route into the send, the mic sample passes to the trunk slot bit for bit. -/
def Obligations.UplinksAndSendsAreFormed : Prop :=
  ∀ (s : State) (inp : FrameInputs), s.settled = true →
    ∃ t, exec (.frame inp) s = .next t ∧
      (∀ k : ProgId,
        let sample : Int := if s.tlink.state = .up then (inp.progs[k.val]).toInt else 0
        t.progs[k.val] =
          { s.progs[k.val] with
            loud := (s.progs[k.val]).loud || decide ((s.progs[k.val]).threshold < sample.natAbs) }) ∧
      ∀ p : Position,
      let x := s.posn p
      let y := t.posn p
      (x.record.stored = .closed → y.ns = x.ns) ∧
      (x.record.stored ≠ .closed →
        let q := s.profiles[x.inForce.params.nsProfile.val]
        let m := min 32767 (s.micSample inp x).natAbs
        let env := if x.ns.env < m then x.ns.env + (m - x.ns.env) / 2 ^ q.attack
          else x.ns.env - (x.ns.env - m) / 2 ^ q.release
        y.ns.env = env ∧ y.ns.cycMin = min x.ns.cycMin env ∧ y.ns.floor = x.ns.floor ∧
        ∃ b : Fin 8, (b.val ≠ 0 → 2 ^ b.val * x.ns.floor ≤ env) ∧
          (b.val ≠ 7 → env < 2 ^ (b.val + 1) * x.ns.floor) ∧
          y.ns.gain =
            (if x.ns.gain < q.curve[b.val] then min q.curve[b.val] (x.ns.gain + q.upStep)
            else if q.curve[b.val] < x.ns.gain then max q.curve[b.val] (x.ns.gain - q.downStep)
            else x.ns.gain)) ∧
      (∀ ts : Slot, s.tOwner ts = some p → x.record.stored = .closed ∨ x.record.hSlot = none →
        t.outputs.computed.trunk[ts.val] = 0) ∧
      (∀ ts : Slot, s.tOwner ts = some p → x.record.stored ≠ .closed → x.record.hSlot ≠ none →
        (∀ r ∈ s.latch.routes, forbiddenPair r.pair = false) →
        let talk := satSample (roundDiv (s.uplinkIn t inp p * 4096 + s.routedIn t inp .send p) 4096)
        let clipAt : ClipId → Int := fun c =>
          let r := s.latch.clips[c.val]
          let ptr := x.inForce.readPtr.getD x.record.holdPtr
          (memRead s.store.mem (r.start + if r.length ≤ ptr then 0 else ptr)).toInt
        let hold : Int := match x.inForce.params.holdSource with
          | .clip c => clipAt c
          | .prog k =>
            if s.latch.sounding[k.val] then (if s.tlink.state = .up then (inp.progs[k.val]).toInt else 0)
            else match s.latch.fallback with
              | none => 0
              | some c => clipAt c
        let pre := satSample (roundDiv
          (talk * (32 - (y.record.h : Int)) * 4096 + hold * x.inForce.params.holdGain * y.record.h) 131072)
        t.outputs.computed.trunk[ts.val] = wordOfSample (roundDiv (pre * y.record.wo) 32)) ∧
      (∀ hs ts : Slot, x.record.stored = .active → x.record.hSlot = some hs → s.tOwner ts = some p →
        x.record.h = 0 → x.record.holdTarget = false → x.record.wo = 32 → x.record.outTarget = true →
        x.record.wm = 32 → x.record.muteTarget = true →
        (s.profiles[x.inForce.params.nsProfile.val]).bypass = true →
        (∀ r ∈ s.latch.routes, ¬ (r.pair.dstKind = .send ∧ r.pair.dst = p)) →
        s.hlink.state = .driving → s.flags.armed = false →
        t.outputs.computed.trunk[ts.val] = inp.mics[hs.val])

/-- R76: with the mute gate shut the mic of a position reaches nothing but its own suppressor: two frames
that differ in that mic word alone leave the same part, but for the suppressor's state. -/
def Obligations.MutedMicReachesNothing : Prop :=
  ∀ (s : State) (inp : FrameInputs) (p : Position) (k : Slot) (w : Word), s.settled = true →
    (s.posn p).record.hSlot = some k → (∀ q : Position, q ≠ p → (s.posn q).record.hSlot ≠ some k) →
    (s.posn p).record.wm = 0 → (s.posn p).record.muteTarget = false →
    ∃ (t : State) (n : Suppressor), exec (.frame inp) s = .next t ∧
      exec (.frame { inp with mics := inp.mics.set k.val w }) s =
        .next (t.modPosn p fun x => { x with ns := n })

/-! ## Links and arrivals -/

/-- R150, clause by clause, but for the two changes of the trunk between UP and not UP: markers in UP,
the hunt, the count of good markers, and the end of LOST. The model's own choices in it: a marker in UP is
judged against the frame in progress, and ends it first where its computation has been made
(notes/assumptions/31.md), taking a message that still waits (6.md); the hunting receiver finds a pattern by
a handed marker word or by SYNC_PATTERN_FOUND (11.md); LOST ends once its frame has ended (30.md). R153, R154:
the quiet window in DRIVING, where the second foreign drive in a row makes CONFLICT and nothing is driven any
more; it is not sensed in CONFLICT, nor in the frame of a LINK_ARM that ended one. That a window after the
computation of a frame is the next frame's is the model's reading of R78 and R153 (40.md). -/
def Obligations.MarkersAndQuietWindowsMoveTheLinks : Prop :=
  ∀ s : State, s.resetLow = false →
    let put : TLink → Host.Outcome State Fault Refusal := fun l => .next { s with tlink := l }
    (s.tlink.state = .up → s.flags.computed = false →
      exec (.tlinkMarker (markerWord s.timer.number)) s = put { s.tlink with bad := 0 } ∧
      (∀ w : Word, w ≠ markerWord s.timer.number → s.tlink.bad = 0 →
        exec (.tlinkMarker w) s = put { s.tlink with bad := 1 })) ∧
    (∀ w : Word, s.tlink.state = .up → s.flags.computed = true →
      exec (.tlinkMarker w) s = exec (.tlinkMarker w) s.takeHead.endFrame) ∧
    (s.tlink.state = .down ∨ (s.tlink.state = .acquiring ∧ s.tlink.good = 0) →
      (∀ n : FrameNumber,
        exec (.tlinkMarker (markerWord n)) s =
          put { state := .acquiring, good := 1, bad := 0, lastGood := n } ∧
        exec (.syncPatternFound n) s =
          put { state := .acquiring, good := 1, bad := 0, lastGood := n }) ∧
      (∀ w : Word, (∀ n : FrameNumber, w ≠ markerWord n) → exec (.tlinkMarker w) s = .next s)) ∧
    (s.tlink.state = .acquiring → 1 ≤ s.tlink.good → s.tlink.good ≤ 2 →
      exec (.tlinkMarker (markerWord (s.tlink.lastGood + 1))) s =
        put { s.tlink with good := s.tlink.good + 1, lastGood := s.tlink.lastGood + 1 }) ∧
    (∀ w : Word, s.tlink.state = .acquiring → 1 ≤ s.tlink.good →
      w ≠ markerWord (s.tlink.lastGood + 1) →
      exec (.tlinkMarker w) s = put { s.tlink with good := 0 }) ∧
    (s.tlink.state = .lost → s.flags.lostEnded = true →
      exec .tlinkLostExpire s = put { s.tlink with state := .acquiring, good := 0 }) ∧
    (s.hlink.state = .driving → s.flags.armed = false → s.flags.computed = false →
      (s.flags.heldWords = [] →
        exec (.hlinkQuietWindow false) s = .next
          { s with
            hlink := { s.hlink with foreignCount := 0 }, flags := { s.flags with sensed := true } }) ∧
      (s.hlink.foreignCount = 0 →
        exec (.hlinkQuietWindow true) s = .next
          { s with
            hlink := { s.hlink with foreignCount := 1 }, flags := { s.flags with sensed := true } }) ∧
      (s.hlink.foreignCount = 1 →
        exec (.hlinkQuietWindow true) s = .next
          ({ s with
              hlink := { state := .conflict, foreignCount := 0 }
              outputs := { s.outputs with hFrame := none }
              flags := { s.flags with sensed := true, heldWords := [] } }.raise
            (.linkHeadset .conflict)))) ∧
    (∀ b : Bool, s.hlink.state = .driving → s.flags.computed = true →
      exec (.hlinkQuietWindow b) s = exec (.hlinkQuietWindow b) s.takeHead.endFrame) ∧
    (∀ b : Bool, s.hlink.state = .conflict ∨ (s.flags.armed = true ∧ s.flags.computed = false) →
      exec (.hlinkQuietWindow b) s = .next s)

/-- R147, R150 to R152, R47, R112, R159, R164, R165: the fourth good marker ends the frame in progress and
opens the next, in which the trunk is UP and the frame timer aligned to the marker's number, with LINK gone
from every freeze set and LINK (TRUNK, UP) raised. A frame whose computation has been made is closed as it
stands; any other makes its computation, as FRAME does, on samples and with orders that are free values (both
are the model's choice, notes/assumptions/13.md). Where a reset is due in the frame (R167, R155), it comes
first, and the marker is the first that a receiver in DOWN finds. The second bad marker in a
row makes the trunk LOST: LINK in every freeze set, a LOADING clip aborted, the message in assembly and the
reply buffer dropped, and a message in transmission cut with 16 GAPs owed. That a marker in UP is judged
against the frame in progress is the model's choice (notes/assumptions/31.md). -/
def Obligations.TrunkComesUpAndIsLost : Prop :=
  (∀ s : State, s.resetLow = false → s.tlink.state = .acquiring → s.tlink.good = 3 →
    s.cmdUnit ≠ .heldResetDue →
    let g := s.tlink.lastGood + 1
    let received := Config.cutShort s.cuts
    ∃ u : State,
      (if s.flags.computed then u = s.takeHead.endFrame
        else exec (.frame { received with order := { received.order with closes := true } })
          { s with cuts := s.cuts + 1 } = .next u) ∧
      u.flags.computed = false ∧
      exec (.tlinkMarker (markerWord g)) s = .next
        ({ u with
            tlink := { state := .up, good := 0, bad := 0, lastGood := g }
            timer := { number := g, aligned := true }
            latch := { u.latch with indicator := u.indicatorFor g }
            pos := Vector.ofFn fun p : Position =>
              let x := u.posn p
              { x with ec := { x.ec with freeze := { x.ec.freeze with link := false } } } }.raise
          (.linkTrunk .up))) ∧
  (∀ s : State, s.resetLow = false → s.tlink.state = .acquiring → s.tlink.good = 3 →
    s.cmdUnit = .heldResetDue →
    let w := markerWord (s.tlink.lastGood + 1)
    ∃ u, exec .devResetPerform s = .next u ∧ u.tlink.state = .down ∧
      exec (.tlinkMarker w) s = exec (.tlinkMarker w) u) ∧
  (∀ (s : State) (w : Word), s.resetLow = false → s.flags.computed = false → s.tlink.state = .up →
    1 ≤ s.tlink.bad → w ≠ markerWord s.timer.number →
    ∃ t, exec (.tlinkMarker w) s = .next t ∧
      t.tlink = { state := .lost, good := 0, bad := 0, lastGood := s.tlink.lastGood } ∧
      t.timer = { s.timer with aligned := false } ∧
      (∀ p : Position, t.posn p =
        { s.posn p with ec := { (s.posn p).ec with freeze :=
          { (s.posn p).ec.freeze with link := true } } }) ∧
      t.replies = [] ∧
      t.arbiter = (if s.arbiter.tx = none then s.arbiter else { tx := none, owed := 16 }) ∧
      t.receiver =
        { s.receiver with
          assembly := none, breakRun := 0
          framingErrors := if s.receiver.assembly = none then s.receiver.framingErrors
            else min 65535 (s.receiver.framingErrors + 1) } ∧
      t.store = (match s.store.loadingClip with
        | none => s.store
        | some c => s.store.emptyClip c) ∧
      (s.events.length + 2 ≤ 64 →
        t.events = s.events ++ [.linkTrunk .lost] ++
          (match s.store.loadingClip with
            | none => []
            | some c => [.clipAborted c (s.store.clip c).fill .link])) ∧
      t.routes = s.routes ∧ t.inputQueue = s.inputQueue)

/-- R156, R157, R162: the symbols of a message of at most 16 body words, delivered one after another to an
idle receiver, place exactly that message, which is taken at once where no message waits and the unit can take
it, and leave no other trace: they do what the message row does (that a message is also a command of its own
is the model's choice, notes/assumptions/1.md, and so is its taking at once, 6.md). -/
def Obligations.SymbolsAssembleTheirMessage : Prop :=
  ∀ (s : State) (m : Message), s.resetLow = false → s.tlink.state = .up →
    s.receiver.assembly = none → s.receiver.breakRun = 0 → m.body.length ≤ 16 →
    (runAll ((symbolsOf m).map fun x => .mgmtSymbol x.1 x.2) s = .next
      (if s.inputQueue = [] then (s.placeMessage m).takeHead else s.placeMessage m)) ∧
    ∀ c : Instr, messageOf c = some m →
      runAll ((symbolsOf m).map fun x => .mgmtSymbol x.1 x.2) s = exec c s

/-- R158: the fourth BRK in a row performs the management break, whatever its data word; any other BRK moves
the run alone. A run of 1 to 3 that another symbol ends is one framing error, a run of 4 none, and the symbol is
then taken by an idle receiver. R157, row by row: a GAP, of which the sixteenth in a message drops it with a
framing error; a HEAD, which begins a message, and is one framing error where one is in assembly or its length
is above 16; a BODY, a TAIL and an unknown tag, each a framing error to an idle receiver; in a message a BODY
adds its word, or is a framing error when all words are held; a TAIL before all words are held is a framing
error, one with another check word is a check failure, and one with the sum completes the message, which is
placed, and taken at once where none waits (notes/assumptions/6.md). Both counts stop at 65535 (R159). -/
def Obligations.BreakAndGapTimeout : Prop :=
  (∀ (s : State) (d : Word), s.resetLow = false → s.tlink.state = .up → s.receiver.breakRun = 3 →
    ∃ t, exec .mgmtBreak s = .next t ∧ exec (.mgmtSymbol 0x1EFF d) s = .next t ∧
      t.inputQueue = [] ∧ t.replies = [] ∧
      t.receiver = { s.receiver with assembly := none, breakRun := 4, overrun := false } ∧
      t.arbiter = (match s.arbiter.tx with
        | none => s.arbiter
        | some x => if x.isReply then { tx := none, owed := 16 } else s.arbiter) ∧
      t.store = (match s.store.loadingClip with
        | none => s.store
        | some c => s.store.emptyClip c) ∧
      (s.events.length + 2 ≤ 64 →
        t.events = s.events ++
          (match s.store.loadingClip with
            | none => []
            | some c => [.clipAborted c (s.store.clip c).fill .brk]) ++ [.mgmtReady]) ∧
      t.pos = s.pos ∧ t.routes = s.routes ∧ t.timer = s.timer ∧ t.tlink = s.tlink) ∧
  (∀ (s : State) (tag d : Word), s.resetLow = false → s.tlink.state = .up →
    let r := s.receiver
    let one := min 65535 (r.framingErrors + 1)
    (r.breakRun ≠ 3 → exec (.mgmtSymbol 0x1EFF d) s = .next
      { s with receiver := { r with assembly := none, breakRun := min 4 (r.breakRun + 1) } }) ∧
    (tag ≠ 0x1EFF → 1 ≤ r.breakRun → r.breakRun ≤ 3 →
      exec (.mgmtSymbol tag d) s =
        exec (.mgmtSymbol tag d) { s with receiver := { r with breakRun := 0, framingErrors := one } }) ∧
    (tag ≠ 0x1EFF → r.breakRun = 4 →
      exec (.mgmtSymbol tag d) s = exec (.mgmtSymbol tag d) { s with receiver := { r with breakRun := 0 } })) ∧
  (∀ (s : State) (tag d : Word), s.resetLow = false → s.tlink.state = .up → s.receiver.breakRun = 0 →
    let r := s.receiver
    let one := min 65535 (r.framingErrors + 1)
    let framingError : Host.Outcome State Fault Refusal :=
      .next { s with receiver := { r with assembly := none, framingErrors := one } }
    let len := d.toNat % 256
    let begun : Assembly :=
      { kind := BitVec.ofNat 8 (d.toNat / 256), length := len, words := [], sum := d, gaps := 0 }
    (len ≤ 16 → r.assembly = none →
      exec (.mgmtSymbol 0x1E01 d) s = .next { s with receiver := { r with assembly := some begun } }) ∧
    (len ≤ 16 → r.assembly ≠ none →
      exec (.mgmtSymbol 0x1E01 d) s = .next
        { s with receiver := { r with assembly := some begun, framingErrors := one } }) ∧
    (16 < len → exec (.mgmtSymbol 0x1E01 d) s = framingError) ∧
    (r.assembly = none →
      exec (.mgmtSymbol 0 d) s = .next s ∧
      (tag ∉ ([0, 0x1E01, 0x1EFF] : List Word) → exec (.mgmtSymbol tag d) s = framingError)) ∧
    (∀ a : Assembly, r.assembly = some a →
      (15 ≤ a.gaps →
        exec .gapTimeout s = framingError ∧ exec (.mgmtSymbol 0 d) s = framingError) ∧
      (a.gaps ≤ 14 → exec (.mgmtSymbol 0 d) s = .next
        { s with receiver := { r with assembly := some { a with gaps := a.gaps + 1 } } }) ∧
      (a.words.length < a.length → exec (.mgmtSymbol 0x1E02 d) s = .next
        { s with receiver := { r with
          assembly := some { a with words := a.words ++ [d], sum := a.sum + d, gaps := 0 } } }) ∧
      (a.length ≤ a.words.length → exec (.mgmtSymbol 0x1E02 d) s = framingError) ∧
      (a.words.length < a.length → exec (.mgmtSymbol 0x1E03 d) s = framingError) ∧
      (a.words.length = a.length → d ≠ a.sum → exec (.mgmtSymbol 0x1E03 d) s = .next
        { s with receiver := { r with
          assembly := none, checkFailures := min 65535 (r.checkFailures + 1) } }) ∧
      (a.words.length = a.length → d = a.sum →
        let placed := ({ s with receiver := { r with assembly := none } } : State).placeMessage
          { kind := a.kind, body := a.words }
        exec (.mgmtSymbol 0x1E03 d) s = .next (if s.inputQueue = [] then placed.takeHead else placed)) ∧
      (tag ∉ ([0, 0x1E01, 0x1E02, 0x1E03, 0x1EFF] : List Word) →
        exec (.mgmtSymbol tag d) s = framingError)))

/-- R137, R139, R141, R142: an arrival that is not valid changes nothing. A valid one steps the five
debouncers of the frame's H-slot; where a position holds the slot, its presence edge writes ABSENT and
its key edges append their actions and report as the key map says, in the order presence, MUTE, HOLD,
VOL_UP, VOL_DOWN. KEY_EDGE and PRESENCE_EDGE are the arrivals that produce those edges. R153: with the
frame's quiet window still to come, the arrival and the window leave the same in either order, so a window
that declares CONFLICT makes the word invalid; where no window comes, FRAME takes the word (that such a word
waits is the model's reading, notes/assumptions/40.md). -/
def Obligations.ArrivalsMakeEdges : Prop :=
  ∀ (s : State) (w : Word), s.resetLow = false →
    (s.arrivalValid w = false → exec (.statusWordArrival w) s = .next s) ∧
    (s.hlink.state = .driving → s.flags.armed = false → s.flags.computed = false →
      s.flags.sensed = false → s.flags.heldWords = [] → s.hlink.foreignCount ≤ 1 →
      (∀ b : Bool,
        runAll [.statusWordArrival w, .hlinkQuietWindow b] s =
          runAll [.hlinkQuietWindow b, .statusWordArrival w] s) ∧
      (∀ (inp : FrameInputs) (t : State), s.begun = true → exec (.statusWordArrival w) s = .next t →
        exec (.frame inp) t =
          exec (.frame inp) (if s.arrivalValid w then s.takeWord w else s))) ∧
    (s.arrivalValid w = true →
      s.hlink.foreignCount ≠ 1 ∨ s.flags.sensed = true ∨ s.flags.computed = true →
      let d := s.debouncers[s.timer.number.val]
      let needed : Key → Nat := fun k => max 1 (debounceArrivals (s.keymap.entry k).debounce)
      let edge : Debouncer → Bool → Nat → Bool := fun b shown v =>
        decide (shown ≠ b.level) && decide (v ≤ b.count + 1)
      let after : Debouncer → Bool → Nat → Debouncer := fun b shown v =>
        if shown = b.level then { b with count := 0 }
        else if v ≤ b.count + 1 then { level := shown, count := 0 } else { b with count := b.count + 1 }
      let present := w.getLsbD 14
      let worn := edge d.presence present (needed .mute)
      let moves : Key → Bool := fun k => edge (d.ofKey k) (keyField w k) (needed k)
      let way : Key → Edge := fun k => if keyField w k then .press else .release
      ∃ t, exec (.statusWordArrival w) s = .next t ∧
        (worn = true → exec (.presenceEdge w) s = .next t) ∧
        (∀ k : Key, moves k = true → exec (.keyEdge k w) s = .next t) ∧
        (t.debouncers[s.timer.number.val]).presence = after d.presence present (needed .mute) ∧
        (∀ k : Key, (t.debouncers[s.timer.number.val]).ofKey k = after (d.ofKey k) (keyField w k) (needed k)) ∧
        (∀ j : Slot, j ≠ s.timer.number → t.debouncers[j.val] = s.debouncers[j.val]) ∧
        (s.hOwner s.timer.number = none → t.pos = s.pos ∧ t.events = s.events) ∧
        (∀ p : Position, s.hOwner s.timer.number = some p →
          s.sameOthers t p ∧
          ((s.posn p).record.keys = [] →
            t.posn p = { s.posn p with record := { (s.posn p).record with
              mute := { (s.posn p).record.mute with
                absent := if worn then !present else (s.posn p).record.mute.absent }
              keys := [Key.mute, .hold, .volUp, .volDown].filterMap fun k =>
                if moves k then actionEntry (s.keymap.entry k).action (way k) else none } }) ∧
          (s.events.length + 5 ≤ 64 →
            t.events = s.events ++
              (if worn then [if present then .headsetOn p else .headsetOff p] else []) ++
              [Key.mute, .hold, .volUp, .volDown].filterMap fun k =>
                if moves k && (s.keymap.entry k).report.includes (way k) then some (.key p k (way k))
                else none)) ∧
        t.keymap = s.keymap ∧ t.timer = s.timer ∧ t.store = s.store ∧ t.routes = s.routes)

/-! ## Laws that every step keeps -/

/-- The state after reset meets every law below. -/
def Obligations.ResetMeetsTheLaws : Prop :=
  State.reset.weightsLaw ∧ State.reset.tapLaw ∧ State.reset.routeLaw ∧ State.reset.useLaw ∧
  State.reset.storeLaw ∧ State.reset.linkLaw ∧ State.reset.queueLaw ∧ State.reset.shockLaw ∧
  State.reset.slotLaw ∧
  Memory.wf State.reset.store.mem = true

/-- R3, whole machine: from weights in 0 to 32 a step leaves weights in 0 to 32, and every step but the
two resets moves each weight of every position by at most 1. -/
def Obligations.WeightsMoveByAtMostOne : Prop :=
  ∀ s t : State, s.weightsLaw → step s = .next t →
    t.weightsLaw ∧
    ((∀ rest, s.pending ≠ .pinReset :: rest) → s.cmdUnit ≠ .heldResetDue →
      ∀ p : Position, weightsWithin1 (s.posn p) (t.posn p))

/-- R25, R26: no step loses or doubles a tap block, and the laws of the block lists stay, those of their
lengths among them (R24, R35). -/
def Obligations.TapBlocksAreConserved : Prop :=
  ∀ s t : State, s.tapLaw → step s = .next t → t.tapLaw

/-- R81, R82: both route tables keep their law through every step, and no frame uses a route that R82 forbids. -/
def Obligations.RouteTablesStayLegal : Prop :=
  ∀ s t : State, s.routeLaw → step s = .next t → t.routeLaw

/-- R113: every use count stays the number of references to its clip. -/
def Obligations.UseCountsAreExact : Prop :=
  ∀ s t : State, s.useLaw → step s = .next t → t.useLaw

/-- R107, R108: every word of clip memory keeps exactly one owner, with at most one clip LOADING, and the
memory keeps its canonical form. -/
def Obligations.ClipWordsHaveOneOwner : Prop :=
  ∀ s t : State, s.storeLaw → Memory.wf s.store.mem = true → step s = .next t →
    t.storeLaw ∧ Memory.wf t.store.mem = true

/-- R47, R128, R133, R146, R14, R148: the timer is ALIGNED and LINK is out of every freeze set exactly while
the T-link is UP, the shock gain follows the stage, and no slot comes to be held by two positions. -/
def Obligations.LinksShockAndSlotsStayConsistent : Prop :=
  ∀ s t : State, step s = .next t →
    (s.linkLaw → t.linkLaw) ∧ (s.shockLaw → t.shockLaw) ∧ (s.slotLaw → t.slotLaw)

/-- R10, R118, R160, R162, R164: the lists stay within their capacities, and a pending commit keeps room
for its reply. -/
def Obligations.ListsStayWithinCapacity : Prop :=
  ∀ s t : State, s.queueLaw → step s = .next t → t.queueLaw
end

