-- ==== Sys2Proof/Laws/State.lean ====
section
/-!
SUPPORT. What each shared operation leaves of the state, field by field: the lemmas that later proofs use
in place of unfolding a record update. An operation's own field has a lemma of its own.
-/

namespace Sys2Proof.Machine

/-! ## One position -/

@[simp] theorem State.posn_setPosn_self (s : State) (p : Position) (x : PosState) :
    (s.setPosn p x).posn p = x := by
  simp [State.posn, State.setPosn]

@[simp] theorem State.posn_setPosn_ne (s : State) {p q : Position} (x : PosState) (h : q ≠ p) :
    (s.setPosn p x).posn q = s.posn q := by
  have : p.val ≠ q.val := fun e => h (Fin.ext e.symm)
  simp [State.posn, State.setPosn, this]

theorem State.posn_setPosn (s : State) (p q : Position) (x : PosState) :
    (s.setPosn p x).posn q = if q = p then x else s.posn q := by
  split
  · subst q; simp
  · simp [*]

@[simp] theorem State.posn_modPosn_self (s : State) (p : Position) (f : PosState → PosState) :
    (s.modPosn p f).posn p = f (s.posn p) := by simp [State.modPosn]

@[simp] theorem State.posn_modPosn_ne (s : State) {p q : Position} (f : PosState → PosState) (h : q ≠ p) :
    (s.modPosn p f).posn q = s.posn q := by simp [State.modPosn, h]

@[simp] theorem State.posn_mapPosns (s : State) (f : Position → PosState → PosState) (p : Position) :
    (s.mapPosns f).posn p = f p (s.posn p) := by simp [State.posn, State.mapPosns]

/-- Writing back what stands changes nothing. -/
@[simp] theorem State.setPosn_posn (s : State) (p : Position) : s.setPosn p (s.posn p) = s := by
  simp [State.setPosn, State.posn]

@[simp] theorem State.setPosn_setPosn (s : State) (p : Position) (x y : PosState) :
    (s.setPosn p x).setPosn p y = s.setPosn p y := by
  simp [State.setPosn]

theorem State.posn_congr {s t : State} (h : t.pos = s.pos) (p : Position) : t.posn p = s.posn p := by
  simp [State.posn, h]

/-! ## setPosn -/

@[simp] theorem State.setPosn_timer (s : State) (p : Position) (x : PosState) : (s.setPosn p x).timer = s.timer := rfl
@[simp] theorem State.setPosn_tlink (s : State) (p : Position) (x : PosState) : (s.setPosn p x).tlink = s.tlink := rfl
@[simp] theorem State.setPosn_hlink (s : State) (p : Position) (x : PosState) : (s.setPosn p x).hlink = s.hlink := rfl
@[simp] theorem State.setPosn_freeTaps (s : State) (p : Position) (x : PosState) : (s.setPosn p x).freeTaps = s.freeTaps := rfl
@[simp] theorem State.setPosn_profiles (s : State) (p : Position) (x : PosState) : (s.setPosn p x).profiles = s.profiles := rfl
@[simp] theorem State.setPosn_pendingProfiles (s : State) (p : Position) (x : PosState) : (s.setPosn p x).pendingProfiles = s.pendingProfiles := rfl
@[simp] theorem State.setPosn_routes (s : State) (p : Position) (x : PosState) : (s.setPosn p x).routes = s.routes := rfl
@[simp] theorem State.setPosn_progs (s : State) (p : Position) (x : PosState) : (s.setPosn p x).progs = s.progs := rfl
@[simp] theorem State.setPosn_fallback (s : State) (p : Position) (x : PosState) : (s.setPosn p x).fallback = s.fallback := rfl
@[simp] theorem State.setPosn_store (s : State) (p : Position) (x : PosState) : (s.setPosn p x).store = s.store := rfl
@[simp] theorem State.setPosn_debouncers (s : State) (p : Position) (x : PosState) : (s.setPosn p x).debouncers = s.debouncers := rfl
@[simp] theorem State.setPosn_keymap (s : State) (p : Position) (x : PosState) : (s.setPosn p x).keymap = s.keymap := rfl
@[simp] theorem State.setPosn_receiver (s : State) (p : Position) (x : PosState) : (s.setPosn p x).receiver = s.receiver := rfl
@[simp] theorem State.setPosn_inputQueue (s : State) (p : Position) (x : PosState) : (s.setPosn p x).inputQueue = s.inputQueue := rfl
@[simp] theorem State.setPosn_cmdUnit (s : State) (p : Position) (x : PosState) : (s.setPosn p x).cmdUnit = s.cmdUnit := rfl
@[simp] theorem State.setPosn_replies (s : State) (p : Position) (x : PosState) : (s.setPosn p x).replies = s.replies := rfl
@[simp] theorem State.setPosn_events (s : State) (p : Position) (x : PosState) : (s.setPosn p x).events = s.events := rfl
@[simp] theorem State.setPosn_eventsLost (s : State) (p : Position) (x : PosState) : (s.setPosn p x).eventsLost = s.eventsLost := rfl
@[simp] theorem State.setPosn_arbiter (s : State) (p : Position) (x : PosState) : (s.setPosn p x).arbiter = s.arbiter := rfl
@[simp] theorem State.setPosn_outputs (s : State) (p : Position) (x : PosState) : (s.setPosn p x).outputs = s.outputs := rfl
@[simp] theorem State.setPosn_flags (s : State) (p : Position) (x : PosState) : (s.setPosn p x).flags = s.flags := rfl
@[simp] theorem State.setPosn_latch (s : State) (p : Position) (x : PosState) : (s.setPosn p x).latch = s.latch := rfl
@[simp] theorem State.setPosn_resetLow (s : State) (p : Position) (x : PosState) : (s.setPosn p x).resetLow = s.resetLow := rfl
@[simp] theorem State.setPosn_cuts (s : State) (p : Position) (x : PosState) : (s.setPosn p x).cuts = s.cuts := rfl
@[simp] theorem State.setPosn_pending (s : State) (p : Position) (x : PosState) : (s.setPosn p x).pending = s.pending := rfl

/-! ## modPosn -/

@[simp] theorem State.modPosn_timer (s : State) (p : Position) (f : PosState → PosState) : (s.modPosn p f).timer = s.timer := rfl
@[simp] theorem State.modPosn_tlink (s : State) (p : Position) (f : PosState → PosState) : (s.modPosn p f).tlink = s.tlink := rfl
@[simp] theorem State.modPosn_hlink (s : State) (p : Position) (f : PosState → PosState) : (s.modPosn p f).hlink = s.hlink := rfl
@[simp] theorem State.modPosn_freeTaps (s : State) (p : Position) (f : PosState → PosState) : (s.modPosn p f).freeTaps = s.freeTaps := rfl
@[simp] theorem State.modPosn_profiles (s : State) (p : Position) (f : PosState → PosState) : (s.modPosn p f).profiles = s.profiles := rfl
@[simp] theorem State.modPosn_pendingProfiles (s : State) (p : Position) (f : PosState → PosState) : (s.modPosn p f).pendingProfiles = s.pendingProfiles := rfl
@[simp] theorem State.modPosn_routes (s : State) (p : Position) (f : PosState → PosState) : (s.modPosn p f).routes = s.routes := rfl
@[simp] theorem State.modPosn_progs (s : State) (p : Position) (f : PosState → PosState) : (s.modPosn p f).progs = s.progs := rfl
@[simp] theorem State.modPosn_fallback (s : State) (p : Position) (f : PosState → PosState) : (s.modPosn p f).fallback = s.fallback := rfl
@[simp] theorem State.modPosn_store (s : State) (p : Position) (f : PosState → PosState) : (s.modPosn p f).store = s.store := rfl
@[simp] theorem State.modPosn_debouncers (s : State) (p : Position) (f : PosState → PosState) : (s.modPosn p f).debouncers = s.debouncers := rfl
@[simp] theorem State.modPosn_keymap (s : State) (p : Position) (f : PosState → PosState) : (s.modPosn p f).keymap = s.keymap := rfl
@[simp] theorem State.modPosn_receiver (s : State) (p : Position) (f : PosState → PosState) : (s.modPosn p f).receiver = s.receiver := rfl
@[simp] theorem State.modPosn_inputQueue (s : State) (p : Position) (f : PosState → PosState) : (s.modPosn p f).inputQueue = s.inputQueue := rfl
@[simp] theorem State.modPosn_cmdUnit (s : State) (p : Position) (f : PosState → PosState) : (s.modPosn p f).cmdUnit = s.cmdUnit := rfl
@[simp] theorem State.modPosn_replies (s : State) (p : Position) (f : PosState → PosState) : (s.modPosn p f).replies = s.replies := rfl
@[simp] theorem State.modPosn_events (s : State) (p : Position) (f : PosState → PosState) : (s.modPosn p f).events = s.events := rfl
@[simp] theorem State.modPosn_eventsLost (s : State) (p : Position) (f : PosState → PosState) : (s.modPosn p f).eventsLost = s.eventsLost := rfl
@[simp] theorem State.modPosn_arbiter (s : State) (p : Position) (f : PosState → PosState) : (s.modPosn p f).arbiter = s.arbiter := rfl
@[simp] theorem State.modPosn_outputs (s : State) (p : Position) (f : PosState → PosState) : (s.modPosn p f).outputs = s.outputs := rfl
@[simp] theorem State.modPosn_flags (s : State) (p : Position) (f : PosState → PosState) : (s.modPosn p f).flags = s.flags := rfl
@[simp] theorem State.modPosn_latch (s : State) (p : Position) (f : PosState → PosState) : (s.modPosn p f).latch = s.latch := rfl
@[simp] theorem State.modPosn_resetLow (s : State) (p : Position) (f : PosState → PosState) : (s.modPosn p f).resetLow = s.resetLow := rfl
@[simp] theorem State.modPosn_cuts (s : State) (p : Position) (f : PosState → PosState) : (s.modPosn p f).cuts = s.cuts := rfl
@[simp] theorem State.modPosn_pending (s : State) (p : Position) (f : PosState → PosState) : (s.modPosn p f).pending = s.pending := rfl

/-! ## mapPosns -/

@[simp] theorem State.mapPosns_timer (s : State) (f : Position → PosState → PosState) : (s.mapPosns f).timer = s.timer := by simp only [State.mapPosns]
@[simp] theorem State.mapPosns_tlink (s : State) (f : Position → PosState → PosState) : (s.mapPosns f).tlink = s.tlink := by simp only [State.mapPosns]
@[simp] theorem State.mapPosns_hlink (s : State) (f : Position → PosState → PosState) : (s.mapPosns f).hlink = s.hlink := by simp only [State.mapPosns]
@[simp] theorem State.mapPosns_freeTaps (s : State) (f : Position → PosState → PosState) : (s.mapPosns f).freeTaps = s.freeTaps := by simp only [State.mapPosns]
@[simp] theorem State.mapPosns_profiles (s : State) (f : Position → PosState → PosState) : (s.mapPosns f).profiles = s.profiles := by simp only [State.mapPosns]
@[simp] theorem State.mapPosns_pendingProfiles (s : State) (f : Position → PosState → PosState) : (s.mapPosns f).pendingProfiles = s.pendingProfiles := by simp only [State.mapPosns]
@[simp] theorem State.mapPosns_routes (s : State) (f : Position → PosState → PosState) : (s.mapPosns f).routes = s.routes := by simp only [State.mapPosns]
@[simp] theorem State.mapPosns_progs (s : State) (f : Position → PosState → PosState) : (s.mapPosns f).progs = s.progs := by simp only [State.mapPosns]
@[simp] theorem State.mapPosns_fallback (s : State) (f : Position → PosState → PosState) : (s.mapPosns f).fallback = s.fallback := by simp only [State.mapPosns]
@[simp] theorem State.mapPosns_store (s : State) (f : Position → PosState → PosState) : (s.mapPosns f).store = s.store := by simp only [State.mapPosns]
@[simp] theorem State.mapPosns_debouncers (s : State) (f : Position → PosState → PosState) : (s.mapPosns f).debouncers = s.debouncers := by simp only [State.mapPosns]
@[simp] theorem State.mapPosns_keymap (s : State) (f : Position → PosState → PosState) : (s.mapPosns f).keymap = s.keymap := by simp only [State.mapPosns]
@[simp] theorem State.mapPosns_receiver (s : State) (f : Position → PosState → PosState) : (s.mapPosns f).receiver = s.receiver := by simp only [State.mapPosns]
@[simp] theorem State.mapPosns_inputQueue (s : State) (f : Position → PosState → PosState) : (s.mapPosns f).inputQueue = s.inputQueue := by simp only [State.mapPosns]
@[simp] theorem State.mapPosns_cmdUnit (s : State) (f : Position → PosState → PosState) : (s.mapPosns f).cmdUnit = s.cmdUnit := by simp only [State.mapPosns]
@[simp] theorem State.mapPosns_replies (s : State) (f : Position → PosState → PosState) : (s.mapPosns f).replies = s.replies := by simp only [State.mapPosns]
@[simp] theorem State.mapPosns_events (s : State) (f : Position → PosState → PosState) : (s.mapPosns f).events = s.events := by simp only [State.mapPosns]
@[simp] theorem State.mapPosns_eventsLost (s : State) (f : Position → PosState → PosState) : (s.mapPosns f).eventsLost = s.eventsLost := by simp only [State.mapPosns]
@[simp] theorem State.mapPosns_arbiter (s : State) (f : Position → PosState → PosState) : (s.mapPosns f).arbiter = s.arbiter := by simp only [State.mapPosns]
@[simp] theorem State.mapPosns_outputs (s : State) (f : Position → PosState → PosState) : (s.mapPosns f).outputs = s.outputs := by simp only [State.mapPosns]
@[simp] theorem State.mapPosns_flags (s : State) (f : Position → PosState → PosState) : (s.mapPosns f).flags = s.flags := by simp only [State.mapPosns]
@[simp] theorem State.mapPosns_latch (s : State) (f : Position → PosState → PosState) : (s.mapPosns f).latch = s.latch := by simp only [State.mapPosns]
@[simp] theorem State.mapPosns_resetLow (s : State) (f : Position → PosState → PosState) : (s.mapPosns f).resetLow = s.resetLow := by simp only [State.mapPosns]
@[simp] theorem State.mapPosns_cuts (s : State) (f : Position → PosState → PosState) : (s.mapPosns f).cuts = s.cuts := by simp only [State.mapPosns]
@[simp] theorem State.mapPosns_pending (s : State) (f : Position → PosState → PosState) : (s.mapPosns f).pending = s.pending := by simp only [State.mapPosns]

/-! ## raiseIn -/

@[simp] theorem State.raiseIn_timer (s : State) (b : EventBlock) (w : Option EventBlock) (e : Event) : (s.raiseIn b w e).timer = s.timer := by
  unfold State.raiseIn; split <;> rfl
@[simp] theorem State.raiseIn_tlink (s : State) (b : EventBlock) (w : Option EventBlock) (e : Event) : (s.raiseIn b w e).tlink = s.tlink := by
  unfold State.raiseIn; split <;> rfl
@[simp] theorem State.raiseIn_hlink (s : State) (b : EventBlock) (w : Option EventBlock) (e : Event) : (s.raiseIn b w e).hlink = s.hlink := by
  unfold State.raiseIn; split <;> rfl
@[simp] theorem State.raiseIn_pos (s : State) (b : EventBlock) (w : Option EventBlock) (e : Event) : (s.raiseIn b w e).pos = s.pos := by
  unfold State.raiseIn; split <;> rfl
@[simp] theorem State.raiseIn_freeTaps (s : State) (b : EventBlock) (w : Option EventBlock) (e : Event) : (s.raiseIn b w e).freeTaps = s.freeTaps := by
  unfold State.raiseIn; split <;> rfl
@[simp] theorem State.raiseIn_profiles (s : State) (b : EventBlock) (w : Option EventBlock) (e : Event) : (s.raiseIn b w e).profiles = s.profiles := by
  unfold State.raiseIn; split <;> rfl
@[simp] theorem State.raiseIn_pendingProfiles (s : State) (b : EventBlock) (w : Option EventBlock) (e : Event) : (s.raiseIn b w e).pendingProfiles = s.pendingProfiles := by
  unfold State.raiseIn; split <;> rfl
@[simp] theorem State.raiseIn_routes (s : State) (b : EventBlock) (w : Option EventBlock) (e : Event) : (s.raiseIn b w e).routes = s.routes := by
  unfold State.raiseIn; split <;> rfl
@[simp] theorem State.raiseIn_progs (s : State) (b : EventBlock) (w : Option EventBlock) (e : Event) : (s.raiseIn b w e).progs = s.progs := by
  unfold State.raiseIn; split <;> rfl
@[simp] theorem State.raiseIn_fallback (s : State) (b : EventBlock) (w : Option EventBlock) (e : Event) : (s.raiseIn b w e).fallback = s.fallback := by
  unfold State.raiseIn; split <;> rfl
@[simp] theorem State.raiseIn_store (s : State) (b : EventBlock) (w : Option EventBlock) (e : Event) : (s.raiseIn b w e).store = s.store := by
  unfold State.raiseIn; split <;> rfl
@[simp] theorem State.raiseIn_debouncers (s : State) (b : EventBlock) (w : Option EventBlock) (e : Event) : (s.raiseIn b w e).debouncers = s.debouncers := by
  unfold State.raiseIn; split <;> rfl
@[simp] theorem State.raiseIn_keymap (s : State) (b : EventBlock) (w : Option EventBlock) (e : Event) : (s.raiseIn b w e).keymap = s.keymap := by
  unfold State.raiseIn; split <;> rfl
@[simp] theorem State.raiseIn_receiver (s : State) (b : EventBlock) (w : Option EventBlock) (e : Event) : (s.raiseIn b w e).receiver = s.receiver := by
  unfold State.raiseIn; split <;> rfl
@[simp] theorem State.raiseIn_inputQueue (s : State) (b : EventBlock) (w : Option EventBlock) (e : Event) : (s.raiseIn b w e).inputQueue = s.inputQueue := by
  unfold State.raiseIn; split <;> rfl
@[simp] theorem State.raiseIn_cmdUnit (s : State) (b : EventBlock) (w : Option EventBlock) (e : Event) : (s.raiseIn b w e).cmdUnit = s.cmdUnit := by
  unfold State.raiseIn; split <;> rfl
@[simp] theorem State.raiseIn_replies (s : State) (b : EventBlock) (w : Option EventBlock) (e : Event) : (s.raiseIn b w e).replies = s.replies := by
  unfold State.raiseIn; split <;> rfl
@[simp] theorem State.raiseIn_arbiter (s : State) (b : EventBlock) (w : Option EventBlock) (e : Event) : (s.raiseIn b w e).arbiter = s.arbiter := by
  unfold State.raiseIn; split <;> rfl
@[simp] theorem State.raiseIn_outputs (s : State) (b : EventBlock) (w : Option EventBlock) (e : Event) : (s.raiseIn b w e).outputs = s.outputs := by
  unfold State.raiseIn; split <;> rfl
@[simp] theorem State.raiseIn_latch (s : State) (b : EventBlock) (w : Option EventBlock) (e : Event) : (s.raiseIn b w e).latch = s.latch := by
  unfold State.raiseIn; split <;> rfl
@[simp] theorem State.raiseIn_resetLow (s : State) (b : EventBlock) (w : Option EventBlock) (e : Event) : (s.raiseIn b w e).resetLow = s.resetLow := by
  unfold State.raiseIn; split <;> rfl
@[simp] theorem State.raiseIn_cuts (s : State) (b : EventBlock) (w : Option EventBlock) (e : Event) : (s.raiseIn b w e).cuts = s.cuts := by
  unfold State.raiseIn; split <;> rfl
@[simp] theorem State.raiseIn_pending (s : State) (b : EventBlock) (w : Option EventBlock) (e : Event) : (s.raiseIn b w e).pending = s.pending := by
  unfold State.raiseIn; split <;> rfl

@[simp] theorem State.raiseIn_posn (s : State) (b : EventBlock) (w : Option EventBlock) (e : Event) (p : Position) :
    (s.raiseIn b w e).posn p = s.posn p := State.posn_congr (by simp) p

theorem State.raiseIn_events {s : State} (b : EventBlock) (w : Option EventBlock) (e : Event) (h : s.events.length < 64) :
    (s.raiseIn b w e).events = s.events ++ [e] := by
  simp [State.raiseIn, Config.eventLimit, h]

/-- What raising an event can do (R164): the queue has room and takes the event at its tail, or the event
is lost and counted. -/
theorem State.raiseIn_cases (s : State) (b : EventBlock) (w : Option EventBlock) (e : Event) :
    (s.events.length < 64 ∧
      s.raiseIn b w e =
        { s with
          events := s.events ++ [e], flags := { s.flags with runs := s.flags.runs ++ [s.runOf b w] } }) ∨
    (64 ≤ s.events.length ∧
      s.raiseIn b w e =
        { s with
          eventsLost := countUp s.eventsLost
          flags := { s.flags with lost := s.flags.lost ++ [(s.runOf b w, e)] } }) := by
  rcases Nat.lt_or_ge s.events.length 64 with h | h
  · exact .inl ⟨h, by simp [State.raiseIn, Config.eventLimit, h]⟩
  · exact .inr ⟨h, by simp [State.raiseIn, Config.eventLimit, Nat.not_lt.mpr h]⟩

/-! ## raise -/

@[simp] theorem State.raise_timer (s : State) (e : Event) : (s.raise e).timer = s.timer := State.raiseIn_timer ..
@[simp] theorem State.raise_tlink (s : State) (e : Event) : (s.raise e).tlink = s.tlink := State.raiseIn_tlink ..
@[simp] theorem State.raise_hlink (s : State) (e : Event) : (s.raise e).hlink = s.hlink := State.raiseIn_hlink ..
@[simp] theorem State.raise_pos (s : State) (e : Event) : (s.raise e).pos = s.pos := State.raiseIn_pos ..
@[simp] theorem State.raise_freeTaps (s : State) (e : Event) : (s.raise e).freeTaps = s.freeTaps := State.raiseIn_freeTaps ..
@[simp] theorem State.raise_profiles (s : State) (e : Event) : (s.raise e).profiles = s.profiles := State.raiseIn_profiles ..
@[simp] theorem State.raise_pendingProfiles (s : State) (e : Event) : (s.raise e).pendingProfiles = s.pendingProfiles := State.raiseIn_pendingProfiles ..
@[simp] theorem State.raise_routes (s : State) (e : Event) : (s.raise e).routes = s.routes := State.raiseIn_routes ..
@[simp] theorem State.raise_progs (s : State) (e : Event) : (s.raise e).progs = s.progs := State.raiseIn_progs ..
@[simp] theorem State.raise_fallback (s : State) (e : Event) : (s.raise e).fallback = s.fallback := State.raiseIn_fallback ..
@[simp] theorem State.raise_store (s : State) (e : Event) : (s.raise e).store = s.store := State.raiseIn_store ..
@[simp] theorem State.raise_debouncers (s : State) (e : Event) : (s.raise e).debouncers = s.debouncers := State.raiseIn_debouncers ..
@[simp] theorem State.raise_keymap (s : State) (e : Event) : (s.raise e).keymap = s.keymap := State.raiseIn_keymap ..
@[simp] theorem State.raise_receiver (s : State) (e : Event) : (s.raise e).receiver = s.receiver := State.raiseIn_receiver ..
@[simp] theorem State.raise_inputQueue (s : State) (e : Event) : (s.raise e).inputQueue = s.inputQueue := State.raiseIn_inputQueue ..
@[simp] theorem State.raise_cmdUnit (s : State) (e : Event) : (s.raise e).cmdUnit = s.cmdUnit := State.raiseIn_cmdUnit ..
@[simp] theorem State.raise_replies (s : State) (e : Event) : (s.raise e).replies = s.replies := State.raiseIn_replies ..
@[simp] theorem State.raise_arbiter (s : State) (e : Event) : (s.raise e).arbiter = s.arbiter := State.raiseIn_arbiter ..
@[simp] theorem State.raise_outputs (s : State) (e : Event) : (s.raise e).outputs = s.outputs := State.raiseIn_outputs ..
@[simp] theorem State.raise_latch (s : State) (e : Event) : (s.raise e).latch = s.latch := State.raiseIn_latch ..
@[simp] theorem State.raise_resetLow (s : State) (e : Event) : (s.raise e).resetLow = s.resetLow := State.raiseIn_resetLow ..
@[simp] theorem State.raise_cuts (s : State) (e : Event) : (s.raise e).cuts = s.cuts := State.raiseIn_cuts ..
@[simp] theorem State.raise_pending (s : State) (e : Event) : (s.raise e).pending = s.pending := State.raiseIn_pending ..

@[simp] theorem State.raise_posn (s : State) (e : Event) (p : Position) : (s.raise e).posn p = s.posn p :=
  State.raiseIn_posn ..

theorem State.raise_events {s : State} (e : Event) (h : s.events.length < 64) :
    (s.raise e).events = s.events ++ [e] := State.raiseIn_events _ none e h

/-! ## raiseAll and raiseAllIn -/

@[simp] theorem State.raiseAll_nil (s : State) : s.raiseAll [] = s := rfl

@[simp] theorem State.raiseAll_cons (s : State) (e : Event) (es : List Event) :
    s.raiseAll (e :: es) = (s.raise e).raiseAll es := rfl

@[simp] theorem State.raiseAllIn_nil (s : State) (b : EventBlock) (w : Option EventBlock) : s.raiseAllIn b w [] = s := rfl

@[simp] theorem State.raiseAllIn_cons (s : State) (b : EventBlock) (w : Option EventBlock) (e : Event) (es : List Event) :
    s.raiseAllIn b w (e :: es) = (s.raiseIn b w e).raiseAllIn b w es := rfl

theorem State.raiseAll_append (s : State) (es fs : List Event) :
    s.raiseAll (es ++ fs) = (s.raiseAll es).raiseAll fs := by
  simp [State.raiseAll]

/-- Whatever an event leaves as it is, a run of events leaves as it is. -/
theorem State.raiseAll_keeps {α : Type} (g : State → α) (h : ∀ (s : State) (e : Event), g (s.raise e) = g s)
    (es : List Event) (s : State) : g (s.raiseAll es) = g s := by
  induction es generalizing s with
  | nil => rfl
  | cons e es ih => rw [State.raiseAll_cons, ih, h]

theorem State.raiseAllIn_keeps {α : Type} (g : State → α) {b : EventBlock} {w : Option EventBlock}
    (h : ∀ (s : State) (e : Event), g (s.raiseIn b w e) = g s) (es : List Event) (s : State) :
    g (s.raiseAllIn b w es) = g s := by
  induction es generalizing s with
  | nil => rfl
  | cons e es ih => rw [State.raiseAllIn_cons, ih, h]

theorem State.raiseAll_events (es : List Event) (s : State) (h : s.events.length + es.length ≤ 64) :
    (s.raiseAll es).events = s.events ++ es := by
  induction es generalizing s with
  | nil => simp
  | cons e es ih =>
    simp only [List.length_cons] at h
    have he := s.raise_events e (by omega)
    rw [State.raiseAll_cons, ih _ (by rw [he]; simp; omega), he]
    simp

theorem State.raiseAllIn_events (b : EventBlock) (w : Option EventBlock) (es : List Event) (s : State)
    (h : s.events.length + es.length ≤ 64) : (s.raiseAllIn b w es).events = s.events ++ es := by
  induction es generalizing s with
  | nil => simp
  | cons e es ih =>
    simp only [List.length_cons] at h
    have he := s.raiseIn_events b w e (by omega)
    rw [State.raiseAllIn_cons, ih _ (by rw [he]; simp; omega), he]
    simp

@[simp] theorem State.raiseAll_timer (s : State) (es : List Event) : (s.raiseAll es).timer = s.timer :=
  State.raiseAll_keeps (fun s => s.timer) (by simp) es s
@[simp] theorem State.raiseAllIn_timer (s : State) (b : EventBlock) (w : Option EventBlock) (es : List Event) :
    (s.raiseAllIn b w es).timer = s.timer := State.raiseAllIn_keeps (fun s => s.timer) (by simp) es s
@[simp] theorem State.raiseAll_tlink (s : State) (es : List Event) : (s.raiseAll es).tlink = s.tlink :=
  State.raiseAll_keeps (fun s => s.tlink) (by simp) es s
@[simp] theorem State.raiseAllIn_tlink (s : State) (b : EventBlock) (w : Option EventBlock) (es : List Event) :
    (s.raiseAllIn b w es).tlink = s.tlink := State.raiseAllIn_keeps (fun s => s.tlink) (by simp) es s
@[simp] theorem State.raiseAll_hlink (s : State) (es : List Event) : (s.raiseAll es).hlink = s.hlink :=
  State.raiseAll_keeps (fun s => s.hlink) (by simp) es s
@[simp] theorem State.raiseAllIn_hlink (s : State) (b : EventBlock) (w : Option EventBlock) (es : List Event) :
    (s.raiseAllIn b w es).hlink = s.hlink := State.raiseAllIn_keeps (fun s => s.hlink) (by simp) es s
@[simp] theorem State.raiseAll_pos (s : State) (es : List Event) : (s.raiseAll es).pos = s.pos :=
  State.raiseAll_keeps (fun s => s.pos) (by simp) es s
@[simp] theorem State.raiseAllIn_pos (s : State) (b : EventBlock) (w : Option EventBlock) (es : List Event) :
    (s.raiseAllIn b w es).pos = s.pos := State.raiseAllIn_keeps (fun s => s.pos) (by simp) es s
@[simp] theorem State.raiseAll_freeTaps (s : State) (es : List Event) : (s.raiseAll es).freeTaps = s.freeTaps :=
  State.raiseAll_keeps (fun s => s.freeTaps) (by simp) es s
@[simp] theorem State.raiseAllIn_freeTaps (s : State) (b : EventBlock) (w : Option EventBlock) (es : List Event) :
    (s.raiseAllIn b w es).freeTaps = s.freeTaps := State.raiseAllIn_keeps (fun s => s.freeTaps) (by simp) es s
@[simp] theorem State.raiseAll_profiles (s : State) (es : List Event) : (s.raiseAll es).profiles = s.profiles :=
  State.raiseAll_keeps (fun s => s.profiles) (by simp) es s
@[simp] theorem State.raiseAllIn_profiles (s : State) (b : EventBlock) (w : Option EventBlock) (es : List Event) :
    (s.raiseAllIn b w es).profiles = s.profiles := State.raiseAllIn_keeps (fun s => s.profiles) (by simp) es s
@[simp] theorem State.raiseAll_pendingProfiles (s : State) (es : List Event) : (s.raiseAll es).pendingProfiles = s.pendingProfiles :=
  State.raiseAll_keeps (fun s => s.pendingProfiles) (by simp) es s
@[simp] theorem State.raiseAllIn_pendingProfiles (s : State) (b : EventBlock) (w : Option EventBlock) (es : List Event) :
    (s.raiseAllIn b w es).pendingProfiles = s.pendingProfiles := State.raiseAllIn_keeps (fun s => s.pendingProfiles) (by simp) es s
@[simp] theorem State.raiseAll_routes (s : State) (es : List Event) : (s.raiseAll es).routes = s.routes :=
  State.raiseAll_keeps (fun s => s.routes) (by simp) es s
@[simp] theorem State.raiseAllIn_routes (s : State) (b : EventBlock) (w : Option EventBlock) (es : List Event) :
    (s.raiseAllIn b w es).routes = s.routes := State.raiseAllIn_keeps (fun s => s.routes) (by simp) es s
@[simp] theorem State.raiseAll_progs (s : State) (es : List Event) : (s.raiseAll es).progs = s.progs :=
  State.raiseAll_keeps (fun s => s.progs) (by simp) es s
@[simp] theorem State.raiseAllIn_progs (s : State) (b : EventBlock) (w : Option EventBlock) (es : List Event) :
    (s.raiseAllIn b w es).progs = s.progs := State.raiseAllIn_keeps (fun s => s.progs) (by simp) es s
@[simp] theorem State.raiseAll_fallback (s : State) (es : List Event) : (s.raiseAll es).fallback = s.fallback :=
  State.raiseAll_keeps (fun s => s.fallback) (by simp) es s
@[simp] theorem State.raiseAllIn_fallback (s : State) (b : EventBlock) (w : Option EventBlock) (es : List Event) :
    (s.raiseAllIn b w es).fallback = s.fallback := State.raiseAllIn_keeps (fun s => s.fallback) (by simp) es s
@[simp] theorem State.raiseAll_store (s : State) (es : List Event) : (s.raiseAll es).store = s.store :=
  State.raiseAll_keeps (fun s => s.store) (by simp) es s
@[simp] theorem State.raiseAllIn_store (s : State) (b : EventBlock) (w : Option EventBlock) (es : List Event) :
    (s.raiseAllIn b w es).store = s.store := State.raiseAllIn_keeps (fun s => s.store) (by simp) es s
@[simp] theorem State.raiseAll_debouncers (s : State) (es : List Event) : (s.raiseAll es).debouncers = s.debouncers :=
  State.raiseAll_keeps (fun s => s.debouncers) (by simp) es s
@[simp] theorem State.raiseAllIn_debouncers (s : State) (b : EventBlock) (w : Option EventBlock) (es : List Event) :
    (s.raiseAllIn b w es).debouncers = s.debouncers := State.raiseAllIn_keeps (fun s => s.debouncers) (by simp) es s
@[simp] theorem State.raiseAll_keymap (s : State) (es : List Event) : (s.raiseAll es).keymap = s.keymap :=
  State.raiseAll_keeps (fun s => s.keymap) (by simp) es s
@[simp] theorem State.raiseAllIn_keymap (s : State) (b : EventBlock) (w : Option EventBlock) (es : List Event) :
    (s.raiseAllIn b w es).keymap = s.keymap := State.raiseAllIn_keeps (fun s => s.keymap) (by simp) es s
@[simp] theorem State.raiseAll_receiver (s : State) (es : List Event) : (s.raiseAll es).receiver = s.receiver :=
  State.raiseAll_keeps (fun s => s.receiver) (by simp) es s
@[simp] theorem State.raiseAllIn_receiver (s : State) (b : EventBlock) (w : Option EventBlock) (es : List Event) :
    (s.raiseAllIn b w es).receiver = s.receiver := State.raiseAllIn_keeps (fun s => s.receiver) (by simp) es s
@[simp] theorem State.raiseAll_inputQueue (s : State) (es : List Event) : (s.raiseAll es).inputQueue = s.inputQueue :=
  State.raiseAll_keeps (fun s => s.inputQueue) (by simp) es s
@[simp] theorem State.raiseAllIn_inputQueue (s : State) (b : EventBlock) (w : Option EventBlock) (es : List Event) :
    (s.raiseAllIn b w es).inputQueue = s.inputQueue := State.raiseAllIn_keeps (fun s => s.inputQueue) (by simp) es s
@[simp] theorem State.raiseAll_cmdUnit (s : State) (es : List Event) : (s.raiseAll es).cmdUnit = s.cmdUnit :=
  State.raiseAll_keeps (fun s => s.cmdUnit) (by simp) es s
@[simp] theorem State.raiseAllIn_cmdUnit (s : State) (b : EventBlock) (w : Option EventBlock) (es : List Event) :
    (s.raiseAllIn b w es).cmdUnit = s.cmdUnit := State.raiseAllIn_keeps (fun s => s.cmdUnit) (by simp) es s
@[simp] theorem State.raiseAll_replies (s : State) (es : List Event) : (s.raiseAll es).replies = s.replies :=
  State.raiseAll_keeps (fun s => s.replies) (by simp) es s
@[simp] theorem State.raiseAllIn_replies (s : State) (b : EventBlock) (w : Option EventBlock) (es : List Event) :
    (s.raiseAllIn b w es).replies = s.replies := State.raiseAllIn_keeps (fun s => s.replies) (by simp) es s
@[simp] theorem State.raiseAll_arbiter (s : State) (es : List Event) : (s.raiseAll es).arbiter = s.arbiter :=
  State.raiseAll_keeps (fun s => s.arbiter) (by simp) es s
@[simp] theorem State.raiseAllIn_arbiter (s : State) (b : EventBlock) (w : Option EventBlock) (es : List Event) :
    (s.raiseAllIn b w es).arbiter = s.arbiter := State.raiseAllIn_keeps (fun s => s.arbiter) (by simp) es s
@[simp] theorem State.raiseAll_outputs (s : State) (es : List Event) : (s.raiseAll es).outputs = s.outputs :=
  State.raiseAll_keeps (fun s => s.outputs) (by simp) es s
@[simp] theorem State.raiseAllIn_outputs (s : State) (b : EventBlock) (w : Option EventBlock) (es : List Event) :
    (s.raiseAllIn b w es).outputs = s.outputs := State.raiseAllIn_keeps (fun s => s.outputs) (by simp) es s
@[simp] theorem State.raiseAll_latch (s : State) (es : List Event) : (s.raiseAll es).latch = s.latch :=
  State.raiseAll_keeps (fun s => s.latch) (by simp) es s
@[simp] theorem State.raiseAllIn_latch (s : State) (b : EventBlock) (w : Option EventBlock) (es : List Event) :
    (s.raiseAllIn b w es).latch = s.latch := State.raiseAllIn_keeps (fun s => s.latch) (by simp) es s
@[simp] theorem State.raiseAll_resetLow (s : State) (es : List Event) : (s.raiseAll es).resetLow = s.resetLow :=
  State.raiseAll_keeps (fun s => s.resetLow) (by simp) es s
@[simp] theorem State.raiseAllIn_resetLow (s : State) (b : EventBlock) (w : Option EventBlock) (es : List Event) :
    (s.raiseAllIn b w es).resetLow = s.resetLow := State.raiseAllIn_keeps (fun s => s.resetLow) (by simp) es s
@[simp] theorem State.raiseAll_cuts (s : State) (es : List Event) : (s.raiseAll es).cuts = s.cuts :=
  State.raiseAll_keeps (fun s => s.cuts) (by simp) es s
@[simp] theorem State.raiseAllIn_cuts (s : State) (b : EventBlock) (w : Option EventBlock) (es : List Event) :
    (s.raiseAllIn b w es).cuts = s.cuts := State.raiseAllIn_keeps (fun s => s.cuts) (by simp) es s
@[simp] theorem State.raiseAll_pending (s : State) (es : List Event) : (s.raiseAll es).pending = s.pending :=
  State.raiseAll_keeps (fun s => s.pending) (by simp) es s
@[simp] theorem State.raiseAllIn_pending (s : State) (b : EventBlock) (w : Option EventBlock) (es : List Event) :
    (s.raiseAllIn b w es).pending = s.pending := State.raiseAllIn_keeps (fun s => s.pending) (by simp) es s

@[simp] theorem State.raiseAll_posn (s : State) (es : List Event) (p : Position) :
    (s.raiseAll es).posn p = s.posn p := State.posn_congr (by simp) p

@[simp] theorem State.raiseAllIn_posn (s : State) (b : EventBlock) (w : Option EventBlock) (es : List Event) (p : Position) :
    (s.raiseAllIn b w es).posn p = s.posn p := State.posn_congr (by simp) p

/-! ## noteReplyGone -/

@[simp] theorem State.noteReplyGone_timer (s : State) : (s.noteReplyGone).timer = s.timer := by
  unfold State.noteReplyGone; split <;> rfl
@[simp] theorem State.noteReplyGone_tlink (s : State) : (s.noteReplyGone).tlink = s.tlink := by
  unfold State.noteReplyGone; split <;> rfl
@[simp] theorem State.noteReplyGone_hlink (s : State) : (s.noteReplyGone).hlink = s.hlink := by
  unfold State.noteReplyGone; split <;> rfl
@[simp] theorem State.noteReplyGone_pos (s : State) : (s.noteReplyGone).pos = s.pos := by
  unfold State.noteReplyGone; split <;> rfl
@[simp] theorem State.noteReplyGone_freeTaps (s : State) : (s.noteReplyGone).freeTaps = s.freeTaps := by
  unfold State.noteReplyGone; split <;> rfl
@[simp] theorem State.noteReplyGone_profiles (s : State) : (s.noteReplyGone).profiles = s.profiles := by
  unfold State.noteReplyGone; split <;> rfl
@[simp] theorem State.noteReplyGone_pendingProfiles (s : State) : (s.noteReplyGone).pendingProfiles = s.pendingProfiles := by
  unfold State.noteReplyGone; split <;> rfl
@[simp] theorem State.noteReplyGone_routes (s : State) : (s.noteReplyGone).routes = s.routes := by
  unfold State.noteReplyGone; split <;> rfl
@[simp] theorem State.noteReplyGone_progs (s : State) : (s.noteReplyGone).progs = s.progs := by
  unfold State.noteReplyGone; split <;> rfl
@[simp] theorem State.noteReplyGone_fallback (s : State) : (s.noteReplyGone).fallback = s.fallback := by
  unfold State.noteReplyGone; split <;> rfl
@[simp] theorem State.noteReplyGone_store (s : State) : (s.noteReplyGone).store = s.store := by
  unfold State.noteReplyGone; split <;> rfl
@[simp] theorem State.noteReplyGone_debouncers (s : State) : (s.noteReplyGone).debouncers = s.debouncers := by
  unfold State.noteReplyGone; split <;> rfl
@[simp] theorem State.noteReplyGone_keymap (s : State) : (s.noteReplyGone).keymap = s.keymap := by
  unfold State.noteReplyGone; split <;> rfl
@[simp] theorem State.noteReplyGone_receiver (s : State) : (s.noteReplyGone).receiver = s.receiver := by
  unfold State.noteReplyGone; split <;> rfl
@[simp] theorem State.noteReplyGone_inputQueue (s : State) : (s.noteReplyGone).inputQueue = s.inputQueue := by
  unfold State.noteReplyGone; split <;> rfl
@[simp] theorem State.noteReplyGone_replies (s : State) : (s.noteReplyGone).replies = s.replies := by
  unfold State.noteReplyGone; split <;> rfl
@[simp] theorem State.noteReplyGone_events (s : State) : (s.noteReplyGone).events = s.events := by
  unfold State.noteReplyGone; split <;> rfl
@[simp] theorem State.noteReplyGone_eventsLost (s : State) : (s.noteReplyGone).eventsLost = s.eventsLost := by
  unfold State.noteReplyGone; split <;> rfl
@[simp] theorem State.noteReplyGone_arbiter (s : State) : (s.noteReplyGone).arbiter = s.arbiter := by
  unfold State.noteReplyGone; split <;> rfl
@[simp] theorem State.noteReplyGone_outputs (s : State) : (s.noteReplyGone).outputs = s.outputs := by
  unfold State.noteReplyGone; split <;> rfl
@[simp] theorem State.noteReplyGone_flags (s : State) : (s.noteReplyGone).flags = s.flags := by
  unfold State.noteReplyGone; split <;> rfl
@[simp] theorem State.noteReplyGone_latch (s : State) : (s.noteReplyGone).latch = s.latch := by
  unfold State.noteReplyGone; split <;> rfl
@[simp] theorem State.noteReplyGone_resetLow (s : State) : (s.noteReplyGone).resetLow = s.resetLow := by
  unfold State.noteReplyGone; split <;> rfl
@[simp] theorem State.noteReplyGone_cuts (s : State) : (s.noteReplyGone).cuts = s.cuts := by
  unfold State.noteReplyGone; split <;> rfl
@[simp] theorem State.noteReplyGone_pending (s : State) : (s.noteReplyGone).pending = s.pending := by
  unfold State.noteReplyGone; split <;> rfl

/-! ## flushReplies -/

@[simp] theorem State.flushReplies_timer (s : State) : (s.flushReplies).timer = s.timer := by
  simp [State.flushReplies]
@[simp] theorem State.flushReplies_tlink (s : State) : (s.flushReplies).tlink = s.tlink := by
  simp [State.flushReplies]
@[simp] theorem State.flushReplies_hlink (s : State) : (s.flushReplies).hlink = s.hlink := by
  simp [State.flushReplies]
@[simp] theorem State.flushReplies_pos (s : State) : (s.flushReplies).pos = s.pos := by
  simp [State.flushReplies]
@[simp] theorem State.flushReplies_freeTaps (s : State) : (s.flushReplies).freeTaps = s.freeTaps := by
  simp [State.flushReplies]
@[simp] theorem State.flushReplies_profiles (s : State) : (s.flushReplies).profiles = s.profiles := by
  simp [State.flushReplies]
@[simp] theorem State.flushReplies_pendingProfiles (s : State) : (s.flushReplies).pendingProfiles = s.pendingProfiles := by
  simp [State.flushReplies]
@[simp] theorem State.flushReplies_routes (s : State) : (s.flushReplies).routes = s.routes := by
  simp [State.flushReplies]
@[simp] theorem State.flushReplies_progs (s : State) : (s.flushReplies).progs = s.progs := by
  simp [State.flushReplies]
@[simp] theorem State.flushReplies_fallback (s : State) : (s.flushReplies).fallback = s.fallback := by
  simp [State.flushReplies]
@[simp] theorem State.flushReplies_store (s : State) : (s.flushReplies).store = s.store := by
  simp [State.flushReplies]
@[simp] theorem State.flushReplies_debouncers (s : State) : (s.flushReplies).debouncers = s.debouncers := by
  simp [State.flushReplies]
@[simp] theorem State.flushReplies_keymap (s : State) : (s.flushReplies).keymap = s.keymap := by
  simp [State.flushReplies]
@[simp] theorem State.flushReplies_receiver (s : State) : (s.flushReplies).receiver = s.receiver := by
  simp [State.flushReplies]
@[simp] theorem State.flushReplies_inputQueue (s : State) : (s.flushReplies).inputQueue = s.inputQueue := by
  simp [State.flushReplies]
@[simp] theorem State.flushReplies_events (s : State) : (s.flushReplies).events = s.events := by
  simp [State.flushReplies]
@[simp] theorem State.flushReplies_eventsLost (s : State) : (s.flushReplies).eventsLost = s.eventsLost := by
  simp [State.flushReplies]
@[simp] theorem State.flushReplies_outputs (s : State) : (s.flushReplies).outputs = s.outputs := by
  simp [State.flushReplies]
@[simp] theorem State.flushReplies_latch (s : State) : (s.flushReplies).latch = s.latch := by
  simp [State.flushReplies]
@[simp] theorem State.flushReplies_resetLow (s : State) : (s.flushReplies).resetLow = s.resetLow := by
  simp [State.flushReplies]
@[simp] theorem State.flushReplies_cuts (s : State) : (s.flushReplies).cuts = s.cuts := by
  simp [State.flushReplies]
@[simp] theorem State.flushReplies_pending (s : State) : (s.flushReplies).pending = s.pending := by
  simp [State.flushReplies]

@[simp] theorem State.flushReplies_replies (s : State) : s.flushReplies.replies = [] := by
  simp [State.flushReplies]

/-! ## drawBlocks -/

@[simp] theorem State.drawBlocks_timer (s : State) (p : Position) (k : Nat) (b : Bool) : (s.drawBlocks p k b).timer = s.timer := rfl
@[simp] theorem State.drawBlocks_tlink (s : State) (p : Position) (k : Nat) (b : Bool) : (s.drawBlocks p k b).tlink = s.tlink := rfl
@[simp] theorem State.drawBlocks_hlink (s : State) (p : Position) (k : Nat) (b : Bool) : (s.drawBlocks p k b).hlink = s.hlink := rfl
@[simp] theorem State.drawBlocks_profiles (s : State) (p : Position) (k : Nat) (b : Bool) : (s.drawBlocks p k b).profiles = s.profiles := rfl
@[simp] theorem State.drawBlocks_pendingProfiles (s : State) (p : Position) (k : Nat) (b : Bool) : (s.drawBlocks p k b).pendingProfiles = s.pendingProfiles := rfl
@[simp] theorem State.drawBlocks_routes (s : State) (p : Position) (k : Nat) (b : Bool) : (s.drawBlocks p k b).routes = s.routes := rfl
@[simp] theorem State.drawBlocks_progs (s : State) (p : Position) (k : Nat) (b : Bool) : (s.drawBlocks p k b).progs = s.progs := rfl
@[simp] theorem State.drawBlocks_fallback (s : State) (p : Position) (k : Nat) (b : Bool) : (s.drawBlocks p k b).fallback = s.fallback := rfl
@[simp] theorem State.drawBlocks_store (s : State) (p : Position) (k : Nat) (b : Bool) : (s.drawBlocks p k b).store = s.store := rfl
@[simp] theorem State.drawBlocks_debouncers (s : State) (p : Position) (k : Nat) (b : Bool) : (s.drawBlocks p k b).debouncers = s.debouncers := rfl
@[simp] theorem State.drawBlocks_keymap (s : State) (p : Position) (k : Nat) (b : Bool) : (s.drawBlocks p k b).keymap = s.keymap := rfl
@[simp] theorem State.drawBlocks_receiver (s : State) (p : Position) (k : Nat) (b : Bool) : (s.drawBlocks p k b).receiver = s.receiver := rfl
@[simp] theorem State.drawBlocks_inputQueue (s : State) (p : Position) (k : Nat) (b : Bool) : (s.drawBlocks p k b).inputQueue = s.inputQueue := rfl
@[simp] theorem State.drawBlocks_cmdUnit (s : State) (p : Position) (k : Nat) (b : Bool) : (s.drawBlocks p k b).cmdUnit = s.cmdUnit := rfl
@[simp] theorem State.drawBlocks_replies (s : State) (p : Position) (k : Nat) (b : Bool) : (s.drawBlocks p k b).replies = s.replies := rfl
@[simp] theorem State.drawBlocks_events (s : State) (p : Position) (k : Nat) (b : Bool) : (s.drawBlocks p k b).events = s.events := rfl
@[simp] theorem State.drawBlocks_eventsLost (s : State) (p : Position) (k : Nat) (b : Bool) : (s.drawBlocks p k b).eventsLost = s.eventsLost := rfl
@[simp] theorem State.drawBlocks_arbiter (s : State) (p : Position) (k : Nat) (b : Bool) : (s.drawBlocks p k b).arbiter = s.arbiter := rfl
@[simp] theorem State.drawBlocks_outputs (s : State) (p : Position) (k : Nat) (b : Bool) : (s.drawBlocks p k b).outputs = s.outputs := rfl
@[simp] theorem State.drawBlocks_flags (s : State) (p : Position) (k : Nat) (b : Bool) : (s.drawBlocks p k b).flags = s.flags := rfl
@[simp] theorem State.drawBlocks_latch (s : State) (p : Position) (k : Nat) (b : Bool) : (s.drawBlocks p k b).latch = s.latch := rfl
@[simp] theorem State.drawBlocks_resetLow (s : State) (p : Position) (k : Nat) (b : Bool) : (s.drawBlocks p k b).resetLow = s.resetLow := rfl
@[simp] theorem State.drawBlocks_cuts (s : State) (p : Position) (k : Nat) (b : Bool) : (s.drawBlocks p k b).cuts = s.cuts := rfl
@[simp] theorem State.drawBlocks_pending (s : State) (p : Position) (k : Nat) (b : Bool) : (s.drawBlocks p k b).pending = s.pending := rfl

/-! ## returnBlocks -/

@[simp] theorem State.returnBlocks_timer (s : State) (l : List TapElem) : (s.returnBlocks l).timer = s.timer := rfl
@[simp] theorem State.returnBlocks_tlink (s : State) (l : List TapElem) : (s.returnBlocks l).tlink = s.tlink := rfl
@[simp] theorem State.returnBlocks_hlink (s : State) (l : List TapElem) : (s.returnBlocks l).hlink = s.hlink := rfl
@[simp] theorem State.returnBlocks_pos (s : State) (l : List TapElem) : (s.returnBlocks l).pos = s.pos := rfl
@[simp] theorem State.returnBlocks_profiles (s : State) (l : List TapElem) : (s.returnBlocks l).profiles = s.profiles := rfl
@[simp] theorem State.returnBlocks_pendingProfiles (s : State) (l : List TapElem) : (s.returnBlocks l).pendingProfiles = s.pendingProfiles := rfl
@[simp] theorem State.returnBlocks_routes (s : State) (l : List TapElem) : (s.returnBlocks l).routes = s.routes := rfl
@[simp] theorem State.returnBlocks_progs (s : State) (l : List TapElem) : (s.returnBlocks l).progs = s.progs := rfl
@[simp] theorem State.returnBlocks_fallback (s : State) (l : List TapElem) : (s.returnBlocks l).fallback = s.fallback := rfl
@[simp] theorem State.returnBlocks_store (s : State) (l : List TapElem) : (s.returnBlocks l).store = s.store := rfl
@[simp] theorem State.returnBlocks_debouncers (s : State) (l : List TapElem) : (s.returnBlocks l).debouncers = s.debouncers := rfl
@[simp] theorem State.returnBlocks_keymap (s : State) (l : List TapElem) : (s.returnBlocks l).keymap = s.keymap := rfl
@[simp] theorem State.returnBlocks_receiver (s : State) (l : List TapElem) : (s.returnBlocks l).receiver = s.receiver := rfl
@[simp] theorem State.returnBlocks_inputQueue (s : State) (l : List TapElem) : (s.returnBlocks l).inputQueue = s.inputQueue := rfl
@[simp] theorem State.returnBlocks_cmdUnit (s : State) (l : List TapElem) : (s.returnBlocks l).cmdUnit = s.cmdUnit := rfl
@[simp] theorem State.returnBlocks_replies (s : State) (l : List TapElem) : (s.returnBlocks l).replies = s.replies := rfl
@[simp] theorem State.returnBlocks_events (s : State) (l : List TapElem) : (s.returnBlocks l).events = s.events := rfl
@[simp] theorem State.returnBlocks_eventsLost (s : State) (l : List TapElem) : (s.returnBlocks l).eventsLost = s.eventsLost := rfl
@[simp] theorem State.returnBlocks_arbiter (s : State) (l : List TapElem) : (s.returnBlocks l).arbiter = s.arbiter := rfl
@[simp] theorem State.returnBlocks_outputs (s : State) (l : List TapElem) : (s.returnBlocks l).outputs = s.outputs := rfl
@[simp] theorem State.returnBlocks_flags (s : State) (l : List TapElem) : (s.returnBlocks l).flags = s.flags := rfl
@[simp] theorem State.returnBlocks_latch (s : State) (l : List TapElem) : (s.returnBlocks l).latch = s.latch := rfl
@[simp] theorem State.returnBlocks_resetLow (s : State) (l : List TapElem) : (s.returnBlocks l).resetLow = s.resetLow := rfl
@[simp] theorem State.returnBlocks_cuts (s : State) (l : List TapElem) : (s.returnBlocks l).cuts = s.cuts := rfl
@[simp] theorem State.returnBlocks_pending (s : State) (l : List TapElem) : (s.returnBlocks l).pending = s.pending := rfl

@[simp] theorem State.returnBlocks_posn (s : State) (l : List TapElem) (p : Position) :
    (s.returnBlocks l).posn p = s.posn p := rfl

/-! ## releaseUse -/

@[simp] theorem State.releaseUse_timer (s : State) (w : Option EventBlock) (c : ClipId) : (s.releaseUse w c).timer = s.timer := by
  simp [State.releaseUse]
@[simp] theorem State.releaseUse_tlink (s : State) (w : Option EventBlock) (c : ClipId) : (s.releaseUse w c).tlink = s.tlink := by
  simp [State.releaseUse]
@[simp] theorem State.releaseUse_hlink (s : State) (w : Option EventBlock) (c : ClipId) : (s.releaseUse w c).hlink = s.hlink := by
  simp [State.releaseUse]
@[simp] theorem State.releaseUse_pos (s : State) (w : Option EventBlock) (c : ClipId) : (s.releaseUse w c).pos = s.pos := by
  simp [State.releaseUse]
@[simp] theorem State.releaseUse_freeTaps (s : State) (w : Option EventBlock) (c : ClipId) : (s.releaseUse w c).freeTaps = s.freeTaps := by
  simp [State.releaseUse]
@[simp] theorem State.releaseUse_profiles (s : State) (w : Option EventBlock) (c : ClipId) : (s.releaseUse w c).profiles = s.profiles := by
  simp [State.releaseUse]
@[simp] theorem State.releaseUse_pendingProfiles (s : State) (w : Option EventBlock) (c : ClipId) : (s.releaseUse w c).pendingProfiles = s.pendingProfiles := by
  simp [State.releaseUse]
@[simp] theorem State.releaseUse_routes (s : State) (w : Option EventBlock) (c : ClipId) : (s.releaseUse w c).routes = s.routes := by
  simp [State.releaseUse]
@[simp] theorem State.releaseUse_progs (s : State) (w : Option EventBlock) (c : ClipId) : (s.releaseUse w c).progs = s.progs := by
  simp [State.releaseUse]
@[simp] theorem State.releaseUse_fallback (s : State) (w : Option EventBlock) (c : ClipId) : (s.releaseUse w c).fallback = s.fallback := by
  simp [State.releaseUse]
@[simp] theorem State.releaseUse_debouncers (s : State) (w : Option EventBlock) (c : ClipId) : (s.releaseUse w c).debouncers = s.debouncers := by
  simp [State.releaseUse]
@[simp] theorem State.releaseUse_keymap (s : State) (w : Option EventBlock) (c : ClipId) : (s.releaseUse w c).keymap = s.keymap := by
  simp [State.releaseUse]
@[simp] theorem State.releaseUse_receiver (s : State) (w : Option EventBlock) (c : ClipId) : (s.releaseUse w c).receiver = s.receiver := by
  simp [State.releaseUse]
@[simp] theorem State.releaseUse_inputQueue (s : State) (w : Option EventBlock) (c : ClipId) : (s.releaseUse w c).inputQueue = s.inputQueue := by
  simp [State.releaseUse]
@[simp] theorem State.releaseUse_cmdUnit (s : State) (w : Option EventBlock) (c : ClipId) : (s.releaseUse w c).cmdUnit = s.cmdUnit := by
  simp [State.releaseUse]
@[simp] theorem State.releaseUse_replies (s : State) (w : Option EventBlock) (c : ClipId) : (s.releaseUse w c).replies = s.replies := by
  simp [State.releaseUse]
@[simp] theorem State.releaseUse_arbiter (s : State) (w : Option EventBlock) (c : ClipId) : (s.releaseUse w c).arbiter = s.arbiter := by
  simp [State.releaseUse]
@[simp] theorem State.releaseUse_outputs (s : State) (w : Option EventBlock) (c : ClipId) : (s.releaseUse w c).outputs = s.outputs := by
  simp [State.releaseUse]
@[simp] theorem State.releaseUse_latch (s : State) (w : Option EventBlock) (c : ClipId) : (s.releaseUse w c).latch = s.latch := by
  simp [State.releaseUse]
@[simp] theorem State.releaseUse_resetLow (s : State) (w : Option EventBlock) (c : ClipId) : (s.releaseUse w c).resetLow = s.resetLow := by
  simp [State.releaseUse]
@[simp] theorem State.releaseUse_cuts (s : State) (w : Option EventBlock) (c : ClipId) : (s.releaseUse w c).cuts = s.cuts := by
  simp [State.releaseUse]
@[simp] theorem State.releaseUse_pending (s : State) (w : Option EventBlock) (c : ClipId) : (s.releaseUse w c).pending = s.pending := by
  simp [State.releaseUse]

@[simp] theorem State.releaseUse_store (s : State) (w : Option EventBlock) (c : ClipId) :
    (s.releaseUse w c).store = (s.store.releaseUse c).1 := by
  simp [State.releaseUse]

@[simp] theorem State.releaseUse_posn (s : State) (w : Option EventBlock) (c : ClipId) (p : Position) :
    (s.releaseUse w c).posn p = s.posn p := State.posn_congr (by simp) p

/-! ## leaveQueue -/

@[simp] theorem State.leaveQueue_timer (s : State) (e : PromptEntry) (r : Event) : (s.leaveQueue e r).timer = s.timer := by
  unfold State.leaveQueue; split <;> simp
@[simp] theorem State.leaveQueue_tlink (s : State) (e : PromptEntry) (r : Event) : (s.leaveQueue e r).tlink = s.tlink := by
  unfold State.leaveQueue; split <;> simp
@[simp] theorem State.leaveQueue_hlink (s : State) (e : PromptEntry) (r : Event) : (s.leaveQueue e r).hlink = s.hlink := by
  unfold State.leaveQueue; split <;> simp
@[simp] theorem State.leaveQueue_pos (s : State) (e : PromptEntry) (r : Event) : (s.leaveQueue e r).pos = s.pos := by
  unfold State.leaveQueue; split <;> simp
@[simp] theorem State.leaveQueue_freeTaps (s : State) (e : PromptEntry) (r : Event) : (s.leaveQueue e r).freeTaps = s.freeTaps := by
  unfold State.leaveQueue; split <;> simp
@[simp] theorem State.leaveQueue_profiles (s : State) (e : PromptEntry) (r : Event) : (s.leaveQueue e r).profiles = s.profiles := by
  unfold State.leaveQueue; split <;> simp
@[simp] theorem State.leaveQueue_pendingProfiles (s : State) (e : PromptEntry) (r : Event) : (s.leaveQueue e r).pendingProfiles = s.pendingProfiles := by
  unfold State.leaveQueue; split <;> simp
@[simp] theorem State.leaveQueue_routes (s : State) (e : PromptEntry) (r : Event) : (s.leaveQueue e r).routes = s.routes := by
  unfold State.leaveQueue; split <;> simp
@[simp] theorem State.leaveQueue_progs (s : State) (e : PromptEntry) (r : Event) : (s.leaveQueue e r).progs = s.progs := by
  unfold State.leaveQueue; split <;> simp
@[simp] theorem State.leaveQueue_fallback (s : State) (e : PromptEntry) (r : Event) : (s.leaveQueue e r).fallback = s.fallback := by
  unfold State.leaveQueue; split <;> simp
@[simp] theorem State.leaveQueue_debouncers (s : State) (e : PromptEntry) (r : Event) : (s.leaveQueue e r).debouncers = s.debouncers := by
  unfold State.leaveQueue; split <;> simp
@[simp] theorem State.leaveQueue_keymap (s : State) (e : PromptEntry) (r : Event) : (s.leaveQueue e r).keymap = s.keymap := by
  unfold State.leaveQueue; split <;> simp
@[simp] theorem State.leaveQueue_receiver (s : State) (e : PromptEntry) (r : Event) : (s.leaveQueue e r).receiver = s.receiver := by
  unfold State.leaveQueue; split <;> simp
@[simp] theorem State.leaveQueue_inputQueue (s : State) (e : PromptEntry) (r : Event) : (s.leaveQueue e r).inputQueue = s.inputQueue := by
  unfold State.leaveQueue; split <;> simp
@[simp] theorem State.leaveQueue_cmdUnit (s : State) (e : PromptEntry) (r : Event) : (s.leaveQueue e r).cmdUnit = s.cmdUnit := by
  unfold State.leaveQueue; split <;> simp
@[simp] theorem State.leaveQueue_replies (s : State) (e : PromptEntry) (r : Event) : (s.leaveQueue e r).replies = s.replies := by
  unfold State.leaveQueue; split <;> simp
@[simp] theorem State.leaveQueue_arbiter (s : State) (e : PromptEntry) (r : Event) : (s.leaveQueue e r).arbiter = s.arbiter := by
  unfold State.leaveQueue; split <;> simp
@[simp] theorem State.leaveQueue_outputs (s : State) (e : PromptEntry) (r : Event) : (s.leaveQueue e r).outputs = s.outputs := by
  unfold State.leaveQueue; split <;> simp
@[simp] theorem State.leaveQueue_latch (s : State) (e : PromptEntry) (r : Event) : (s.leaveQueue e r).latch = s.latch := by
  unfold State.leaveQueue; split <;> simp
@[simp] theorem State.leaveQueue_resetLow (s : State) (e : PromptEntry) (r : Event) : (s.leaveQueue e r).resetLow = s.resetLow := by
  unfold State.leaveQueue; split <;> simp
@[simp] theorem State.leaveQueue_cuts (s : State) (e : PromptEntry) (r : Event) : (s.leaveQueue e r).cuts = s.cuts := by
  unfold State.leaveQueue; split <;> simp
@[simp] theorem State.leaveQueue_pending (s : State) (e : PromptEntry) (r : Event) : (s.leaveQueue e r).pending = s.pending := by
  unfold State.leaveQueue; split <;> simp

@[simp] theorem State.leaveQueue_store (s : State) (e : PromptEntry) (r : Event) :
    (s.leaveQueue e r).store = (s.store.releaseUse e.clip).1 := by
  unfold State.leaveQueue; split <;> simp

@[simp] theorem State.leaveQueue_posn (s : State) (e : PromptEntry) (r : Event) (p : Position) :
    (s.leaveQueue e r).posn p = s.posn p := State.posn_congr (by simp) p

/-! ## abortLoading -/

@[simp] theorem State.abortLoading_timer (s : State) (a : AbortCause) : (s.abortLoading a).timer = s.timer := by
  unfold State.abortLoading; split <;> simp
@[simp] theorem State.abortLoading_tlink (s : State) (a : AbortCause) : (s.abortLoading a).tlink = s.tlink := by
  unfold State.abortLoading; split <;> simp
@[simp] theorem State.abortLoading_hlink (s : State) (a : AbortCause) : (s.abortLoading a).hlink = s.hlink := by
  unfold State.abortLoading; split <;> simp
@[simp] theorem State.abortLoading_pos (s : State) (a : AbortCause) : (s.abortLoading a).pos = s.pos := by
  unfold State.abortLoading; split <;> simp
@[simp] theorem State.abortLoading_freeTaps (s : State) (a : AbortCause) : (s.abortLoading a).freeTaps = s.freeTaps := by
  unfold State.abortLoading; split <;> simp
@[simp] theorem State.abortLoading_profiles (s : State) (a : AbortCause) : (s.abortLoading a).profiles = s.profiles := by
  unfold State.abortLoading; split <;> simp
@[simp] theorem State.abortLoading_pendingProfiles (s : State) (a : AbortCause) : (s.abortLoading a).pendingProfiles = s.pendingProfiles := by
  unfold State.abortLoading; split <;> simp
@[simp] theorem State.abortLoading_routes (s : State) (a : AbortCause) : (s.abortLoading a).routes = s.routes := by
  unfold State.abortLoading; split <;> simp
@[simp] theorem State.abortLoading_progs (s : State) (a : AbortCause) : (s.abortLoading a).progs = s.progs := by
  unfold State.abortLoading; split <;> simp
@[simp] theorem State.abortLoading_fallback (s : State) (a : AbortCause) : (s.abortLoading a).fallback = s.fallback := by
  unfold State.abortLoading; split <;> simp
@[simp] theorem State.abortLoading_debouncers (s : State) (a : AbortCause) : (s.abortLoading a).debouncers = s.debouncers := by
  unfold State.abortLoading; split <;> simp
@[simp] theorem State.abortLoading_keymap (s : State) (a : AbortCause) : (s.abortLoading a).keymap = s.keymap := by
  unfold State.abortLoading; split <;> simp
@[simp] theorem State.abortLoading_receiver (s : State) (a : AbortCause) : (s.abortLoading a).receiver = s.receiver := by
  unfold State.abortLoading; split <;> simp
@[simp] theorem State.abortLoading_inputQueue (s : State) (a : AbortCause) : (s.abortLoading a).inputQueue = s.inputQueue := by
  unfold State.abortLoading; split <;> simp
@[simp] theorem State.abortLoading_cmdUnit (s : State) (a : AbortCause) : (s.abortLoading a).cmdUnit = s.cmdUnit := by
  unfold State.abortLoading; split <;> simp
@[simp] theorem State.abortLoading_replies (s : State) (a : AbortCause) : (s.abortLoading a).replies = s.replies := by
  unfold State.abortLoading; split <;> simp
@[simp] theorem State.abortLoading_arbiter (s : State) (a : AbortCause) : (s.abortLoading a).arbiter = s.arbiter := by
  unfold State.abortLoading; split <;> simp
@[simp] theorem State.abortLoading_outputs (s : State) (a : AbortCause) : (s.abortLoading a).outputs = s.outputs := by
  unfold State.abortLoading; split <;> simp
@[simp] theorem State.abortLoading_latch (s : State) (a : AbortCause) : (s.abortLoading a).latch = s.latch := by
  unfold State.abortLoading; split <;> simp
@[simp] theorem State.abortLoading_resetLow (s : State) (a : AbortCause) : (s.abortLoading a).resetLow = s.resetLow := by
  unfold State.abortLoading; split <;> simp
@[simp] theorem State.abortLoading_cuts (s : State) (a : AbortCause) : (s.abortLoading a).cuts = s.cuts := by
  unfold State.abortLoading; split <;> simp
@[simp] theorem State.abortLoading_pending (s : State) (a : AbortCause) : (s.abortLoading a).pending = s.pending := by
  unfold State.abortLoading; split <;> simp

/-! ## busy -/

@[simp] theorem State.busy_timer (s : State) (k : Byte) : (s.busy k).timer = s.timer := rfl
@[simp] theorem State.busy_tlink (s : State) (k : Byte) : (s.busy k).tlink = s.tlink := rfl
@[simp] theorem State.busy_hlink (s : State) (k : Byte) : (s.busy k).hlink = s.hlink := rfl
@[simp] theorem State.busy_pos (s : State) (k : Byte) : (s.busy k).pos = s.pos := rfl
@[simp] theorem State.busy_freeTaps (s : State) (k : Byte) : (s.busy k).freeTaps = s.freeTaps := rfl
@[simp] theorem State.busy_profiles (s : State) (k : Byte) : (s.busy k).profiles = s.profiles := rfl
@[simp] theorem State.busy_pendingProfiles (s : State) (k : Byte) : (s.busy k).pendingProfiles = s.pendingProfiles := rfl
@[simp] theorem State.busy_routes (s : State) (k : Byte) : (s.busy k).routes = s.routes := rfl
@[simp] theorem State.busy_progs (s : State) (k : Byte) : (s.busy k).progs = s.progs := rfl
@[simp] theorem State.busy_fallback (s : State) (k : Byte) : (s.busy k).fallback = s.fallback := rfl
@[simp] theorem State.busy_store (s : State) (k : Byte) : (s.busy k).store = s.store := rfl
@[simp] theorem State.busy_debouncers (s : State) (k : Byte) : (s.busy k).debouncers = s.debouncers := rfl
@[simp] theorem State.busy_keymap (s : State) (k : Byte) : (s.busy k).keymap = s.keymap := rfl
@[simp] theorem State.busy_receiver (s : State) (k : Byte) : (s.busy k).receiver = s.receiver := rfl
@[simp] theorem State.busy_inputQueue (s : State) (k : Byte) : (s.busy k).inputQueue = s.inputQueue := rfl
@[simp] theorem State.busy_cmdUnit (s : State) (k : Byte) : (s.busy k).cmdUnit = s.cmdUnit := rfl
@[simp] theorem State.busy_replies (s : State) (k : Byte) : (s.busy k).replies = s.replies := rfl
@[simp] theorem State.busy_events (s : State) (k : Byte) : (s.busy k).events = s.events := rfl
@[simp] theorem State.busy_eventsLost (s : State) (k : Byte) : (s.busy k).eventsLost = s.eventsLost := rfl
@[simp] theorem State.busy_arbiter (s : State) (k : Byte) : (s.busy k).arbiter = s.arbiter := rfl
@[simp] theorem State.busy_outputs (s : State) (k : Byte) : (s.busy k).outputs = s.outputs := rfl
@[simp] theorem State.busy_latch (s : State) (k : Byte) : (s.busy k).latch = s.latch := rfl
@[simp] theorem State.busy_resetLow (s : State) (k : Byte) : (s.busy k).resetLow = s.resetLow := rfl
@[simp] theorem State.busy_cuts (s : State) (k : Byte) : (s.busy k).cuts = s.cuts := rfl
@[simp] theorem State.busy_pending (s : State) (k : Byte) : (s.busy k).pending = s.pending := rfl

@[simp] theorem State.busy_posn (s : State) (k : Byte) (p : Position) : (s.busy k).posn p = s.posn p := rfl

/-! ## said -/

@[simp] theorem State.said_timer (s : State) (k : Byte) (c : ReplyCode) (r : List Word) : (s.said k c r).timer = s.timer := rfl
@[simp] theorem State.said_tlink (s : State) (k : Byte) (c : ReplyCode) (r : List Word) : (s.said k c r).tlink = s.tlink := rfl
@[simp] theorem State.said_hlink (s : State) (k : Byte) (c : ReplyCode) (r : List Word) : (s.said k c r).hlink = s.hlink := rfl
@[simp] theorem State.said_pos (s : State) (k : Byte) (c : ReplyCode) (r : List Word) : (s.said k c r).pos = s.pos := rfl
@[simp] theorem State.said_freeTaps (s : State) (k : Byte) (c : ReplyCode) (r : List Word) : (s.said k c r).freeTaps = s.freeTaps := rfl
@[simp] theorem State.said_profiles (s : State) (k : Byte) (c : ReplyCode) (r : List Word) : (s.said k c r).profiles = s.profiles := rfl
@[simp] theorem State.said_pendingProfiles (s : State) (k : Byte) (c : ReplyCode) (r : List Word) : (s.said k c r).pendingProfiles = s.pendingProfiles := rfl
@[simp] theorem State.said_routes (s : State) (k : Byte) (c : ReplyCode) (r : List Word) : (s.said k c r).routes = s.routes := rfl
@[simp] theorem State.said_progs (s : State) (k : Byte) (c : ReplyCode) (r : List Word) : (s.said k c r).progs = s.progs := rfl
@[simp] theorem State.said_fallback (s : State) (k : Byte) (c : ReplyCode) (r : List Word) : (s.said k c r).fallback = s.fallback := rfl
@[simp] theorem State.said_store (s : State) (k : Byte) (c : ReplyCode) (r : List Word) : (s.said k c r).store = s.store := rfl
@[simp] theorem State.said_debouncers (s : State) (k : Byte) (c : ReplyCode) (r : List Word) : (s.said k c r).debouncers = s.debouncers := rfl
@[simp] theorem State.said_keymap (s : State) (k : Byte) (c : ReplyCode) (r : List Word) : (s.said k c r).keymap = s.keymap := rfl
@[simp] theorem State.said_receiver (s : State) (k : Byte) (c : ReplyCode) (r : List Word) : (s.said k c r).receiver = s.receiver := rfl
@[simp] theorem State.said_inputQueue (s : State) (k : Byte) (c : ReplyCode) (r : List Word) : (s.said k c r).inputQueue = s.inputQueue := rfl
@[simp] theorem State.said_cmdUnit (s : State) (k : Byte) (c : ReplyCode) (r : List Word) : (s.said k c r).cmdUnit = s.cmdUnit := rfl
@[simp] theorem State.said_events (s : State) (k : Byte) (c : ReplyCode) (r : List Word) : (s.said k c r).events = s.events := rfl
@[simp] theorem State.said_eventsLost (s : State) (k : Byte) (c : ReplyCode) (r : List Word) : (s.said k c r).eventsLost = s.eventsLost := rfl
@[simp] theorem State.said_arbiter (s : State) (k : Byte) (c : ReplyCode) (r : List Word) : (s.said k c r).arbiter = s.arbiter := rfl
@[simp] theorem State.said_outputs (s : State) (k : Byte) (c : ReplyCode) (r : List Word) : (s.said k c r).outputs = s.outputs := rfl
@[simp] theorem State.said_latch (s : State) (k : Byte) (c : ReplyCode) (r : List Word) : (s.said k c r).latch = s.latch := rfl
@[simp] theorem State.said_resetLow (s : State) (k : Byte) (c : ReplyCode) (r : List Word) : (s.said k c r).resetLow = s.resetLow := rfl
@[simp] theorem State.said_cuts (s : State) (k : Byte) (c : ReplyCode) (r : List Word) : (s.said k c r).cuts = s.cuts := rfl
@[simp] theorem State.said_pending (s : State) (k : Byte) (c : ReplyCode) (r : List Word) : (s.said k c r).pending = s.pending := rfl

@[simp] theorem State.said_posn (s : State) (k : Byte) (c : ReplyCode) (r : List Word) (p : Position) :
    (s.said k c r).posn p = s.posn p := rfl

@[simp] theorem State.said_replies (s : State) (k : Byte) (c : ReplyCode) (r : List Word) :
    (s.said k c r).replies = s.replies ++ [{ kind := k, code := c, results := r }] := rfl

end Sys2Proof.Machine
end

