-- ==== Sys2Proof/Laws/Commands.lean ====
section
/-!
SUPPORT. What a message row does where the part takes a message at once: one equation for all of them,
and what settling its answer leaves.
-/

namespace Sys2Proof.Machine

/-- The parts of `State.accepts`. -/
theorem State.accepts_iff (s : State) :
    s.accepts = true ↔
      s.resetLow = false ∧ s.cmdUnit = .ready ∧ s.flags.taken = none ∧ s.inputQueue = [] ∧
      s.receiver.overrun = false ∧ s.replies.length < 2 ∧ s.tlink.state = .up := by
  simp only [State.accepts, Bool.and_eq_true, Bool.not_eq_true', decide_eq_true_eq,
    List.isEmpty_iff, Option.isNone_iff_eq_none, and_assoc]
  rfl

theorem State.accepts_up {s : State} (h : s.accepts = true) : s.tlink.state = .up :=
  (s.accepts_iff.mp h).2.2.2.2.2.2

/-- A message that can be taken at once is placed and run on the state with the unit marked busy. -/
theorem State.deliver_accepts {s : State} (h : s.accepts = true) (m : Message) :
    s.deliver m = runMessage m (s.busy m.kind) := by
  obtain ⟨_, hu, ht, hq, ho, hr, _⟩ := s.accepts_iff.mp h
  cases s
  simp_all [State.deliver, State.placeMessage, State.takeHead, State.canTake, State.busy,
    Config.inputLimit, Config.replyLimit]

/-- A message row, where the part takes it at once, settles its command's answer. -/
theorem submit_accepts {s : State} (h : s.accepts = true) {kind : Byte} (body : List Word)
    {f : List Word → State → Answer} (hf : commandOf kind = some f) :
    submit kind body s = .next (settle kind (f body (s.busy kind))) := by
  simp [submit, State.whenRunning, (s.accepts_iff.mp h).1, State.deliver_accepts h, runMessage, hf]

/-- An answer with a reply, on a state whose unit is busy and whose trunk is UP, leaves the reply. -/
theorem settle_busy {u : State} (hu : u.tlink.state = .up) (kind : Byte) (code : ReplyCode)
    (results : List Word) :
    settle kind { state := u.busy kind, reply := some (code, results) } = u.said kind code results := by
  simp [settle, State.placeReply, hu, State.busy, State.said]

/-- A message row whose command answers on the busy state, with a reply: the form in which a command's
effect is proved. -/
theorem submit_next {s : State} (h : s.accepts = true) {kind : Byte} (body : List Word)
    {f : List Word → State → Answer} (hf : commandOf kind = some f) {u : State} {code : ReplyCode}
    {results : List Word} (hu : u.tlink.state = .up)
    (e : f body (s.busy kind) = { state := u.busy kind, reply := some (code, results) }) :
    submit kind body s = .next (u.said kind code results) := by
  rw [submit_accepts h body hf, e, settle_busy hu]

/-! ## The busy mark stands outside every other change -/

theorem State.busy_modPosn (s : State) (k : Byte) (p : Position) (f : PosState → PosState) :
    (s.busy k).modPosn p f = (s.modPosn p f).busy k := rfl

theorem State.busy_setPosn (s : State) (k : Byte) (p : Position) (x : PosState) :
    (s.busy k).setPosn p x = (s.setPosn p x).busy k := rfl

theorem State.busy_modRecord (s : State) (k : Byte) (p : Position) (f : Record → Record) :
    (s.busy k).modRecord p f = (s.modRecord p f).busy k := rfl

theorem State.busy_drawBlocks (s : State) (k : Byte) (p : Position) (n : Nat) (b : Bool) :
    (s.busy k).drawBlocks p n b = (s.drawBlocks p n b).busy k := rfl

/-- Marking twice marks once. -/
@[simp] theorem State.busy_busy (s : State) (k : Byte) : (s.busy k).busy k = s.busy k := rfl

/-! A state that is marked stays marked, whatever is raised or released in it. -/

theorem State.raiseIn_marked {s : State} {k : Byte} (h : s.busy k = s) (b : EventBlock)
    (w : Option EventBlock) (e : Event) : (s.raiseIn b w e).busy k = s.raiseIn b w e := by
  have ht : s.flags.taken = some k := by rw [← h]; rfl
  rcases s.raiseIn_cases b w e with ⟨_, he⟩ | ⟨_, he⟩ <;> rw [he, State.busy] <;> simp [← ht]

theorem State.raise_marked {s : State} {k : Byte} (h : s.busy k = s) (e : Event) :
    (s.raise e).busy k = s.raise e := State.raiseIn_marked h _ _ e

theorem State.raiseAllIn_marked (b : EventBlock) (w : Option EventBlock) (es : List Event) {s : State}
    {k : Byte} (h : s.busy k = s) : (s.raiseAllIn b w es).busy k = s.raiseAllIn b w es := by
  induction es generalizing s with
  | nil => exact h
  | cons e es ih => rw [State.raiseAllIn_cons]; exact ih (State.raiseIn_marked h b w e)

theorem State.setStore_marked {s : State} {k : Byte} (h : s.busy k = s) (c : ClipStore) :
    { s with store := c }.busy k = { s with store := c } := by
  rw [← h]; rfl

theorem State.releaseUse_marked {s : State} {k : Byte} (h : s.busy k = s) (w : Option EventBlock)
    (c : ClipId) : (s.releaseUse w c).busy k = s.releaseUse w c :=
  State.raiseAllIn_marked _ _ _ (State.setStore_marked h _)

theorem State.releaseSource_marked {s : State} {k : Byte} (h : s.busy k = s) (src : HoldSource) :
    (s.releaseSource src).busy k = s.releaseSource src := by
  cases src
  · exact h
  · exact State.releaseUse_marked h _ _

theorem State.leaveQueue_marked {s : State} {k : Byte} (h : s.busy k = s) (e : PromptEntry) (r : Event) :
    (s.leaveQueue e r).busy k = s.leaveQueue e r := by
  unfold State.leaveQueue
  split
  · exact State.releaseUse_marked (State.raise_marked h _) _ _
  · exact State.releaseUse_marked h _ _

theorem State.dropEntry_marked {s : State} {k : Byte} (h : s.busy k = s) (p : Position) (e : PromptEntry)
    (n : Nat) (c : DropCause) : (s.dropEntry p e n c).busy k = s.dropEntry p e n c :=
  State.leaveQueue_marked h e _

theorem State.dropEntries_marked (p : Position) (l : List PromptEntry) (n : Nat) (c : DropCause)
    {s : State} {k : Byte} (h : s.busy k = s) :
    (s.dropEntries p l n c).busy k = s.dropEntries p l n c := by
  induction l generalizing s n with
  | nil => exact h
  | cons e es ih => exact ih _ (State.dropEntry_marked h p e n c)

end Sys2Proof.Machine
end

