-- ==== Sys2Proof/Laws/Events.lean ====
section
/-!
SUPPORT. What the order of a frame's events can do (R170): the interleaving is a permutation that keeps each
block's own order, and ordering a frame's events changes nothing else and keeps the length of the queue.
-/

namespace Sys2Proof.Machine

/-- The event that leaves is the first of its block, and no event of the block behind which it stands is left
before it. -/
theorem pullFirst_cases {b : EventBlock} {l : List (EventRun × Event)} {r}
    (h : pullFirst b l = some r) :
    ∃ pre post, l = pre ++ r.1 :: post ∧ r.2 = pre ++ post ∧ r.1.1.block = b ∧
      ∀ x ∈ pre, x.1.block ≠ b ∧ r.1.1.behind ≠ some x.1.block := by
  induction l generalizing r with
  | nil => simp [pullFirst] at h
  | cons x xs ih =>
    unfold pullFirst at h
    split at h
    · next hx => cases h; exact ⟨[], xs, rfl, rfl, hx, by simp⟩
    · next hx =>
      split at h
      · cases h
      · next q hq =>
        split at h
        · cases h
        · next hw =>
          cases h
          obtain ⟨pre, post, hl, hr, hb, hp⟩ := ih hq
          exact ⟨x :: pre, post, by rw [hl]; rfl, by rw [hr]; rfl, hb,
            fun y hy => by
            rcases List.mem_cons.mp hy with rfl | hy
            · exact ⟨hx, hw⟩
            · exact hp y hy⟩

theorem pullFirst_perm {b : EventBlock} {l : List (EventRun × Event)} {r}
    (h : pullFirst b l = some r) : (r.1 :: r.2).Perm l := by
  obtain ⟨pre, post, hl, hr, -⟩ := pullFirst_cases h
  rw [hl, hr]
  exact List.perm_middle.symm

/-- The events of a block in the list. -/
def inRun (c : EventBlock) (l : List (EventRun × Event)) : List (EventRun × Event) :=
  l.filter fun x => x.1.block = c

@[simp] theorem inRun_append (c : EventBlock) (l m : List (EventRun × Event)) :
    inRun c (l ++ m) = inRun c l ++ inRun c m := List.filter_append ..

theorem inRun_cons (c : EventBlock) (x : EventRun × Event) (l : List (EventRun × Event)) :
    inRun c (x :: l) = if x.1.block = c then x :: inRun c l else inRun c l := by
  simp [inRun, List.filter_cons]

theorem inRun_nil_of {c : EventBlock} {l : List (EventRun × Event)} (h : ∀ x ∈ l, x.1.block ≠ c) :
    inRun c l = [] := by
  simpa [inRun] using h

/-- No block's own order changes. -/
theorem pullFirst_filter {b : EventBlock} {l : List (EventRun × Event)} {r}
    (h : pullFirst b l = some r) (c : EventBlock) : inRun c (r.1 :: r.2) = inRun c l := by
  obtain ⟨pre, post, hl, hr, hb, hp⟩ := pullFirst_cases h
  rw [hl, hr, inRun_cons, inRun_append, inRun_append, inRun_cons]
  split
  · next hc => rw [inRun_nil_of fun x hx => hc ▸ hb ▸ (hp x hx).1]; rfl
  · rfl

/-- Interleaving loses and doubles no event (R170). -/
theorem interleave_perm (picks : List EventBlock) (l : List (EventRun × Event)) :
    (interleave picks l).Perm l := by
  induction picks generalizing l with
  | nil => exact .refl _
  | cons b bs ih =>
    simp only [interleave]
    split
    · exact ih _
    · next r hr => exact ((ih r.2).cons r.1).trans (pullFirst_perm hr)

/-- Each block's events keep their own order (R170). -/
theorem interleave_filter (picks : List EventBlock) (l : List (EventRun × Event)) (c : EventBlock) :
    inRun c (interleave picks l) = inRun c l := by
  induction picks generalizing l with
  | nil => rfl
  | cons b bs ih =>
    simp only [interleave]
    split
    · exact ih _
    · next r hr =>
      rw [← pullFirst_filter hr c, inRun_cons, inRun_cons, ih]

/-- The event that opens is the first of its block, and depends on no reply. -/
theorem pullFree_spec {bs : List EventBlock} {l : List (EventRun × Event)} {r}
    (h : pullFree bs l = some r) : (∃ b, pullFirst b l = some r) ∧ r.1.1.tied = false := by
  induction bs with
  | nil => simp [pullFree] at h
  | cons b bs ih =>
    simp only [pullFree] at h
    split at h
    · exact ih h
    · next q hq =>
      split at h
      · exact ih h
      · next ht => cases h; exact ⟨⟨b, hq⟩, by simpa using ht⟩

/-- What the order of a frame's events can be (R170): an interleaving of them, or one of their
interleavings behind an event that depends on no reply and is the first of its block. -/
theorem orderRuns_cases (o : FrameOrder) (l : List (EventRun × Event)) :
    orderRuns o l = interleave o.picks l ∨
    ∃ b r, pullFirst b l = some r ∧ r.1.1.tied = false ∧
      orderRuns o l = r.1 :: interleave o.picks.tail r.2 := by
  unfold orderRuns
  split
  · split
    · exact .inl rfl
    · next r hr =>
      obtain ⟨⟨b, hb⟩, ht⟩ := pullFree_spec hr
      exact .inr ⟨b, r, hb, ht, rfl⟩
  · exact .inl rfl
  · exact .inl rfl

theorem orderRuns_perm (o : FrameOrder) (l : List (EventRun × Event)) : (orderRuns o l).Perm l := by
  rcases orderRuns_cases o l with h | ⟨b, r, hb, -, h⟩
  · rw [h]; exact interleave_perm _ _
  · rw [h]; exact ((interleave_perm _ _).cons _).trans (pullFirst_perm hb)

theorem orderRuns_filter (o : FrameOrder) (l : List (EventRun × Event)) (c : EventBlock) :
    inRun c (orderRuns o l) = inRun c l := by
  rcases orderRuns_cases o l with h | ⟨b, r, hb, -, h⟩
  · rw [h]; exact interleave_filter _ _ _
  · rw [h, ← pullFirst_filter hb c, inRun_cons, inRun_cons, interleave_filter]

/-- `m` keeps every event of `l` behind its cause: the event has before it, of its own block, what it had in
`l`, and of the block behind which it stands at least that. -/
def KeepsCauses (l m : List (EventRun × Event)) : Prop :=
  ∀ pre x post, m = pre ++ x :: post →
    ∃ pre' post', l = pre' ++ x :: post' ∧ inRun x.1.block pre = inRun x.1.block pre' ∧
      ∀ c, x.1.behind = some c → inRun c pre' <+: inRun c pre

theorem KeepsCauses.refl (l : List (EventRun × Event)) : KeepsCauses l l :=
  fun pre _ post h => ⟨pre, post, h, rfl, fun _ _ => List.prefix_rfl⟩

theorem KeepsCauses.trans {l m n : List (EventRun × Event)} (h : KeepsCauses l m) (h' : KeepsCauses m n) :
    KeepsCauses l n := fun pre x post hn =>
  have ⟨pre', post', hm, hi', hc'⟩ := h' pre x post hn
  have ⟨pre'', post'', hl, hi, hc⟩ := h pre' x post' hm
  ⟨pre'', post'', hl, hi'.trans hi, fun c e => (hc c e).trans (hc' c e)⟩

/-- One event that may leave goes first, and the rest keeps its causes. -/
theorem KeepsCauses.pull {b : EventBlock} {l m : List (EventRun × Event)} {r}
    (h : pullFirst b l = some r) (hm : KeepsCauses r.2 m) : KeepsCauses l (r.1 :: m) := by
  obtain ⟨pre0, post0, hl, hr, hb, hp⟩ := pullFirst_cases h
  intro pre x post hx
  cases pre with
  | nil =>
    obtain ⟨rfl, -⟩ := List.cons.inj hx
    refine ⟨pre0, post0, hl, ?_, fun c hc => ?_⟩
    · rw [inRun_nil_of (l := pre0) fun y hy => hb ▸ (hp y hy).1]; rfl
    · rw [inRun_nil_of (l := pre0) fun y hy e => (hp y hy).2 (e ▸ hc)]; exact List.nil_prefix
  | cons y ys =>
    obtain ⟨rfl, hy⟩ := List.cons.inj hx
    obtain ⟨pre', post', hl', hi, hc'⟩ := hm ys x post hy
    rw [hr] at hl'
    have after : ∀ k, pre' = pre0 ++ k → post0 = k ++ x :: post' → ∃ q q', l = q ++ x :: q' ∧
        inRun x.1.block (r.1 :: ys) = inRun x.1.block q ∧
        ∀ c, x.1.behind = some c → inRun c q <+: inRun c (r.1 :: ys) := by
      intro k hk hk'
      have hq : ∀ c, inRun c (pre0 ++ r.1 :: k) = inRun c (r.1 :: pre') := fun c => by
        rw [hk, inRun_append, inRun_cons, inRun_cons, inRun_append]
        split
        · next hc => rw [inRun_nil_of fun y hy => hc ▸ hb ▸ (hp y hy).1]; rfl
        · rfl
      refine ⟨pre0 ++ r.1 :: k, post', by rw [hl, hk']; simp, ?_, fun c hc => ?_⟩
      · rw [hq, inRun_cons, inRun_cons, hi]
      · rw [hq, inRun_cons, inRun_cons]
        have hk2 := hc' c hc
        split
        · exact List.cons_prefix_cons.mpr ⟨rfl, hk2⟩
        · exact hk2
    rcases List.append_eq_append_iff.mp hl' with ⟨k, hk, hk'⟩ | ⟨k, hk, hk'⟩
    · exact after k hk hk'
    · cases k with
      | nil => exact after [] (by simpa using hk.symm) hk'.symm
      | cons z zs =>
        obtain ⟨rfl, hz⟩ := List.cons.inj hk'
        have hx0 : x ∈ pre0 := by rw [hk]; simp
        have hxb := (hp x hx0).1
        refine ⟨pre', zs ++ r.1 :: post0, by rw [hl, hk]; simp, ?_, fun c hc => ?_⟩
        · rw [inRun_cons, if_neg fun e => hxb (hb ▸ e.symm), hi]
        · rw [inRun_cons]
          split
          · next h1 =>
            rw [inRun_nil_of fun y hy => h1 ▸ hb ▸ (hp y (by rw [hk]; simp [hy])).1]
            exact List.nil_prefix
          · exact hc' c hc

theorem interleave_causes (picks : List EventBlock) (l : List (EventRun × Event)) :
    KeepsCauses l (interleave picks l) := by
  induction picks generalizing l with
  | nil => exact .refl l
  | cons b bs ih =>
    simp only [interleave]
    split
    · exact ih l
    · next r hr => exact .pull hr (ih r.2)

/-- An event stays behind the event of its own cause (R114). -/
theorem orderRuns_causes (o : FrameOrder) (l : List (EventRun × Event)) : KeepsCauses l (orderRuns o l) := by
  rcases orderRuns_cases o l with h | ⟨b, r, hb, -, h⟩
  · rw [h]; exact interleave_causes _ _
  · rw [h]; exact .pull hb (interleave_causes _ _)

/-- Every loose event has its place in a run. -/
theorem State.looseEvents_length (s : State) :
    s.looseEvents.length = s.events.length - s.fixedEvents + s.flags.lost.length := by
  have : s.events.length - s.flags.runs.length ≤ s.fixedEvents := Nat.le_max_left _ _
  simp only [State.looseEvents, List.length_append, List.length_zip, List.length_drop]
  omega

/-- The queue keeps its length. -/
theorem State.orderEvents_length (s : State) (o : FrameOrder) :
    (s.orderEvents o).events.length = s.events.length := by
  simp only [State.orderEvents, List.length_append, List.length_map, List.length_take,
    (orderRuns_perm _ _).length_eq, State.looseEvents_length]
  omega

theorem State.fixedEvents_loose (s : State) : s.events.length - s.fixedEvents ≤ s.flags.runs.length := by
  have : s.events.length - s.flags.runs.length ≤ s.fixedEvents := Nat.le_max_left _ _
  omega

/-- As many events of the frame stand in the queue as before. -/
theorem State.orderEvents_runs_length (s : State) (o : FrameOrder) :
    (s.orderEvents o).flags.runs.length = s.flags.runs.length := by
  have := s.fixedEvents_loose
  simp only [State.orderEvents, List.length_append, List.length_map, List.length_take,
    (orderRuns_perm _ _).length_eq, State.looseEvents_length]
  omega

theorem State.orderEvents_fixedEvents (s : State) (o : FrameOrder) :
    (s.orderEvents o).fixedEvents = s.fixedEvents := by
  rw [State.fixedEvents, State.orderEvents_length, State.orderEvents_runs_length]; rfl

/-- No event of the frame is forgotten, lost or not: ordering them again starts from the order they have. -/
theorem State.orderEvents_looseEvents (s : State) (o : FrameOrder) :
    (s.orderEvents o).looseEvents = orderRuns o s.looseEvents := by
  have hr := s.fixedEvents_loose
  have hl : (orderRuns o s.looseEvents).length = s.events.length - s.fixedEvents + s.flags.lost.length := by
    rw [(orderRuns_perm _ _).length_eq, State.looseEvents_length]
  rw [State.looseEvents, State.orderEvents_fixedEvents, State.orderEvents_length,
    State.orderEvents_runs_length]
  simp only [State.orderEvents]
  generalize hm : orderRuns o s.looseEvents = m at hl ⊢
  generalize hk : s.events.length - s.fixedEvents = k at hr hl ⊢
  have h1 : (s.flags.runs.take (s.flags.runs.length - k) ++ (m.take k).map Prod.fst).drop
      (s.flags.runs.length - k) = (m.take k).map Prod.fst :=
    List.drop_left' (by rw [List.length_take]; omega)
  have h2 : (s.events.take s.fixedEvents ++ (m.take k).map Prod.snd).drop s.fixedEvents =
      (m.take k).map Prod.snd := by
    rcases Nat.le_total s.fixedEvents s.events.length with h | h
    · exact List.drop_left' (by rw [List.length_take]; omega)
    · have : k = 0 := by omega
      simp [this]
  have hz : ∀ l : List (EventRun × Event), (l.map Prod.fst).zip (l.map Prod.snd) = l := fun l => by
    induction l with
    | nil => rfl
    | cons x xs ih => simp [ih]
  rw [h1, h2, hz, List.take_append_drop]

/-- Ordering twice gives an order of what the frame raised that keeps each block's own order and every event
behind its cause. -/
theorem State.orderEvents_twice (s : State) (o o' : FrameOrder) :
    (((s.orderEvents o).orderEvents o').looseEvents).Perm s.looseEvents ∧
      (∀ c, inRun c ((s.orderEvents o).orderEvents o').looseEvents = inRun c s.looseEvents) ∧
      KeepsCauses s.looseEvents ((s.orderEvents o).orderEvents o').looseEvents := by
  rw [State.orderEvents_looseEvents, State.orderEvents_looseEvents]
  exact ⟨(orderRuns_perm _ _).trans (orderRuns_perm _ _),
    fun c => (orderRuns_filter _ _ c).trans (orderRuns_filter _ _ c),
    (orderRuns_causes o _).trans (orderRuns_causes o' _)⟩

/-- The events of earlier frames keep their places. -/
theorem State.orderEvents_prefix (s : State) (o : FrameOrder) :
    s.events.take s.fixedEvents <+: (s.orderEvents o).events := List.prefix_append _ _

@[simp] theorem State.orderEvents_timer (s : State) (o : FrameOrder) : (s.orderEvents o).timer = s.timer := rfl
@[simp] theorem State.orderEvents_tlink (s : State) (o : FrameOrder) : (s.orderEvents o).tlink = s.tlink := rfl
@[simp] theorem State.orderEvents_hlink (s : State) (o : FrameOrder) : (s.orderEvents o).hlink = s.hlink := rfl
@[simp] theorem State.orderEvents_pos (s : State) (o : FrameOrder) : (s.orderEvents o).pos = s.pos := rfl
@[simp] theorem State.orderEvents_freeTaps (s : State) (o : FrameOrder) : (s.orderEvents o).freeTaps = s.freeTaps := rfl
@[simp] theorem State.orderEvents_profiles (s : State) (o : FrameOrder) : (s.orderEvents o).profiles = s.profiles := rfl
@[simp] theorem State.orderEvents_pendingProfiles (s : State) (o : FrameOrder) : (s.orderEvents o).pendingProfiles = s.pendingProfiles := rfl
@[simp] theorem State.orderEvents_routes (s : State) (o : FrameOrder) : (s.orderEvents o).routes = s.routes := rfl
@[simp] theorem State.orderEvents_progs (s : State) (o : FrameOrder) : (s.orderEvents o).progs = s.progs := rfl
@[simp] theorem State.orderEvents_fallback (s : State) (o : FrameOrder) : (s.orderEvents o).fallback = s.fallback := rfl
@[simp] theorem State.orderEvents_store (s : State) (o : FrameOrder) : (s.orderEvents o).store = s.store := rfl
@[simp] theorem State.orderEvents_debouncers (s : State) (o : FrameOrder) : (s.orderEvents o).debouncers = s.debouncers := rfl
@[simp] theorem State.orderEvents_keymap (s : State) (o : FrameOrder) : (s.orderEvents o).keymap = s.keymap := rfl
@[simp] theorem State.orderEvents_receiver (s : State) (o : FrameOrder) : (s.orderEvents o).receiver = s.receiver := rfl
@[simp] theorem State.orderEvents_inputQueue (s : State) (o : FrameOrder) : (s.orderEvents o).inputQueue = s.inputQueue := rfl
@[simp] theorem State.orderEvents_cmdUnit (s : State) (o : FrameOrder) : (s.orderEvents o).cmdUnit = s.cmdUnit := rfl
@[simp] theorem State.orderEvents_replies (s : State) (o : FrameOrder) : (s.orderEvents o).replies = s.replies := rfl
@[simp] theorem State.orderEvents_eventsLost (s : State) (o : FrameOrder) : (s.orderEvents o).eventsLost = s.eventsLost := rfl
@[simp] theorem State.orderEvents_arbiter (s : State) (o : FrameOrder) : (s.orderEvents o).arbiter = s.arbiter := rfl
@[simp] theorem State.orderEvents_outputs (s : State) (o : FrameOrder) : (s.orderEvents o).outputs = s.outputs := rfl
@[simp] theorem State.orderEvents_latch (s : State) (o : FrameOrder) : (s.orderEvents o).latch = s.latch := rfl
@[simp] theorem State.orderEvents_resetLow (s : State) (o : FrameOrder) : (s.orderEvents o).resetLow = s.resetLow := rfl
@[simp] theorem State.orderEvents_cuts (s : State) (o : FrameOrder) : (s.orderEvents o).cuts = s.cuts := rfl
@[simp] theorem State.orderEvents_pending (s : State) (o : FrameOrder) : (s.orderEvents o).pending = s.pending := rfl

@[simp] theorem State.orderEvents_posn (s : State) (o : FrameOrder) (p : Position) :
    (s.orderEvents o).posn p = s.posn p := rfl

end Sys2Proof.Machine
end

