-- ==== Sys2Proof/Laws/Frame.lean ====
section
/-!
SUPPORT. What a settled frame does: its computation as one equation, the position that each lane ends
in, and the parts of the state that a frame's computation leaves.
-/

namespace Sys2Proof.Machine

/-! ## A settled frame has no work before its computation -/

theorem State.settled_iff (s : State) :
    s.settled = true ↔
      s.resetLow = false ∧ s.flags.computed = false ∧ s.tlink.state ≠ .lost ∧
      s.cmdUnit ≠ .heldResetDue ∧ s.inputQueue = [] ∧ s.flags.turnDone = true ∧
      s.flags.heldWords = [] ∧
      (s.timer.number ≠ 0 ∨
        s.flags.monitorDone = true ∧ s.flags.profilesDone = true ∧ s.flags.commitDone = true) := by
  simp only [State.settled, Bool.and_eq_true, Bool.or_eq_true, Bool.not_eq_true', decide_eq_true_eq,
    List.isEmpty_iff, and_assoc]

/-- With no status word waiting for the quiet window nothing is taken. -/
theorem State.takeHeldWords_nil {s : State} (h : s.flags.heldWords = []) : s.takeHeldWords = s := by
  simp only [State.takeHeldWords, h, List.foldl_nil]
  rw [← h]

theorem State.beginFrame_settled {s : State} (h : s.settled = true) : s.beginFrame = s := by
  obtain ⟨_, _, hl, hr, _, _, hw, _⟩ := s.settled_iff.mp h
  simp [State.beginFrame, State.expireLost, State.performDueReset, hl, hr, State.takeHeldWords_nil hw]

theorem State.prepared_settled {s : State} (h : s.settled = true) (o : FrameOrder) : s.prepared o = s := by
  obtain ⟨_, _, _, _, hq, ht, _, hc⟩ := s.settled_iff.mp h
  have h1 : s.takeHead = s := by simp [State.takeHead, hq]
  have h2 : s.dueCycle = s := by
    rcases hc with hn | ⟨ha, hb, hd⟩
    · simp [State.dueCycle, State.monitorDue, State.profilesDue, State.commitDue, hn]
    · simp [State.dueCycle, State.monitorDue, State.profilesDue, State.commitDue, ha, hb, hd]
  have h3 : s.dueTurn o = s := by simp [State.dueTurn, State.turnDue, ht]
  rw [State.prepared, State.beginFrame_settled h, State.dueWork, State.beforeTurn, h1, h2, h1, ite_self, h3]

theorem State.computedFrame_settled {s : State} (h : s.settled = true) (inp : FrameInputs) :
    s.computedFrame inp = s.compute inp s.indicatorWord := by
  rw [State.computedFrame, State.prepared_settled h, State.beginFrame_settled h]

/-- FRAME in a settled frame. -/
theorem execFrame_settled {s : State} (h : s.settled = true) (inp : FrameInputs) :
    execFrame inp s = .next ((s.compute inp s.indicatorWord).closeIf inp.order) := by
  obtain ⟨hr, hc, _⟩ := s.settled_iff.mp h
  simp [execFrame, State.whenRunning, hr, State.frameStep, hc, State.computedFrame_settled h]

/-- A named frame in a settled frame is FRAME where its outcome takes place. -/
theorem namedFrame_settled {s : State} (h : s.settled = true) {inp : FrameInputs}
    {outcome : State → State → Bool} (ho : outcome s (s.compute inp s.indicatorWord) = true) :
    namedFrame inp outcome s = .next ((s.compute inp s.indicatorWord).closeIf inp.order) := by
  obtain ⟨hr, hc, _⟩ := s.settled_iff.mp h
  simp [namedFrame, State.whenRunning, hr, State.frameStep, hc, State.computedFrame_settled h,
    State.prepared_settled h, ho]

/-! ## The events of a frame -/

theorem State.promptCompleted_cases (s : State) (p : Position) (d : Option (PromptEntry × Nat)) :
    s.promptCompleted p d = s ∨ ∃ e n, d = some (e, n) ∧
      s.promptCompleted p d = s.leaveQueue e (.promptDone p e.clip n) := by
  cases d with
  | none => exact .inl rfl
  | some d => exact .inr ⟨d.1, d.2, rfl, rfl⟩

theorem State.takeFrameEvent_timer (s : State) (e : FrameEvent) : (s.takeFrameEvent e).timer = s.timer := by
  cases e with
  | completed p e n => simp [State.takeFrameEvent, State.promptCompleted]
  | shock e => simp [State.takeFrameEvent]

theorem State.takeFrameEvent_tlink (s : State) (e : FrameEvent) : (s.takeFrameEvent e).tlink = s.tlink := by
  cases e with
  | completed p e n => simp [State.takeFrameEvent, State.promptCompleted]
  | shock e => simp [State.takeFrameEvent]

theorem State.takeFrameEvent_hlink (s : State) (e : FrameEvent) : (s.takeFrameEvent e).hlink = s.hlink := by
  cases e with
  | completed p e n => simp [State.takeFrameEvent, State.promptCompleted]
  | shock e => simp [State.takeFrameEvent]

theorem State.takeFrameEvent_freeTaps (s : State) (e : FrameEvent) : (s.takeFrameEvent e).freeTaps = s.freeTaps := by
  cases e with
  | completed p e n => simp [State.takeFrameEvent, State.promptCompleted]
  | shock e => simp [State.takeFrameEvent]

theorem State.takeFrameEvent_profiles (s : State) (e : FrameEvent) : (s.takeFrameEvent e).profiles = s.profiles := by
  cases e with
  | completed p e n => simp [State.takeFrameEvent, State.promptCompleted]
  | shock e => simp [State.takeFrameEvent]

theorem State.takeFrameEvent_pendingProfiles (s : State) (e : FrameEvent) : (s.takeFrameEvent e).pendingProfiles = s.pendingProfiles := by
  cases e with
  | completed p e n => simp [State.takeFrameEvent, State.promptCompleted]
  | shock e => simp [State.takeFrameEvent]

theorem State.takeFrameEvent_routes (s : State) (e : FrameEvent) : (s.takeFrameEvent e).routes = s.routes := by
  cases e with
  | completed p e n => simp [State.takeFrameEvent, State.promptCompleted]
  | shock e => simp [State.takeFrameEvent]

theorem State.takeFrameEvent_debouncers (s : State) (e : FrameEvent) : (s.takeFrameEvent e).debouncers = s.debouncers := by
  cases e with
  | completed p e n => simp [State.takeFrameEvent, State.promptCompleted]
  | shock e => simp [State.takeFrameEvent]

theorem State.takeFrameEvent_keymap (s : State) (e : FrameEvent) : (s.takeFrameEvent e).keymap = s.keymap := by
  cases e with
  | completed p e n => simp [State.takeFrameEvent, State.promptCompleted]
  | shock e => simp [State.takeFrameEvent]

theorem State.takeFrameEvent_receiver (s : State) (e : FrameEvent) : (s.takeFrameEvent e).receiver = s.receiver := by
  cases e with
  | completed p e n => simp [State.takeFrameEvent, State.promptCompleted]
  | shock e => simp [State.takeFrameEvent]

theorem State.takeFrameEvent_inputQueue (s : State) (e : FrameEvent) : (s.takeFrameEvent e).inputQueue = s.inputQueue := by
  cases e with
  | completed p e n => simp [State.takeFrameEvent, State.promptCompleted]
  | shock e => simp [State.takeFrameEvent]

theorem State.takeFrameEvent_latch (s : State) (e : FrameEvent) : (s.takeFrameEvent e).latch = s.latch := by
  cases e with
  | completed p e n => simp [State.takeFrameEvent, State.promptCompleted]
  | shock e => simp [State.takeFrameEvent]

theorem State.takeFrameEvent_resetLow (s : State) (e : FrameEvent) : (s.takeFrameEvent e).resetLow = s.resetLow := by
  cases e with
  | completed p e n => simp [State.takeFrameEvent, State.promptCompleted]
  | shock e => simp [State.takeFrameEvent]

theorem State.takeFrameEvent_cuts (s : State) (e : FrameEvent) : (s.takeFrameEvent e).cuts = s.cuts := by
  cases e with
  | completed p e n => simp [State.takeFrameEvent, State.promptCompleted]
  | shock e => simp [State.takeFrameEvent]

theorem State.takeFrameEvent_pending (s : State) (e : FrameEvent) : (s.takeFrameEvent e).pending = s.pending := by
  cases e with
  | completed p e n => simp [State.takeFrameEvent, State.promptCompleted]
  | shock e => simp [State.takeFrameEvent]

theorem State.takeFrameEvent_fallback (s : State) (e : FrameEvent) : (s.takeFrameEvent e).fallback = s.fallback := by
  cases e with
  | completed p e n => simp [State.takeFrameEvent, State.promptCompleted]
  | shock e => simp [State.takeFrameEvent]

theorem State.takeFrameEvent_pos (s : State) (e : FrameEvent) : (s.takeFrameEvent e).pos = s.pos := by
  cases e with
  | completed p e n => simp [State.takeFrameEvent, State.promptCompleted]
  | shock e => simp [State.takeFrameEvent]

theorem State.takeFrameEvent_progs (s : State) (e : FrameEvent) : (s.takeFrameEvent e).progs = s.progs := by
  cases e with
  | completed p e n => simp [State.takeFrameEvent, State.promptCompleted]
  | shock e => simp [State.takeFrameEvent]

theorem State.takeFrameEvent_cmdUnit (s : State) (e : FrameEvent) : (s.takeFrameEvent e).cmdUnit = s.cmdUnit := by
  cases e with
  | completed p e n => simp [State.takeFrameEvent, State.promptCompleted]
  | shock e => simp [State.takeFrameEvent]

theorem State.takeFrameEvent_replies (s : State) (e : FrameEvent) : (s.takeFrameEvent e).replies = s.replies := by
  cases e with
  | completed p e n => simp [State.takeFrameEvent, State.promptCompleted]
  | shock e => simp [State.takeFrameEvent]

theorem State.takeFrameEvent_arbiter (s : State) (e : FrameEvent) : (s.takeFrameEvent e).arbiter = s.arbiter := by
  cases e with
  | completed p e n => simp [State.takeFrameEvent, State.promptCompleted]
  | shock e => simp [State.takeFrameEvent]

theorem State.takeFrameEvent_outputs (s : State) (e : FrameEvent) : (s.takeFrameEvent e).outputs = s.outputs := by
  cases e with
  | completed p e n => simp [State.takeFrameEvent, State.promptCompleted]
  | shock e => simp [State.takeFrameEvent]

/-- Whatever one event of a frame leaves as it is, its whole run leaves. -/
theorem foldl_takeFrameEvent {α : Type} (g : State → α)
    (h : ∀ (s : State) (e : FrameEvent), g (s.takeFrameEvent e) = g s) (l : List FrameEvent) (s : State) :
    g (l.foldl State.takeFrameEvent s) = g s := by
  induction l generalizing s with
  | nil => rfl
  | cons e l ih => rw [List.foldl_cons, ih, h]

/-! ## The outbound arbiter -/

theorem State.sendSymbol_timer (s : State) (r : Bool) (n : Nat) : (s.sendSymbol r n).1.timer = s.timer := by
  unfold State.sendSymbol; simp only; split
  · unfold State.messageGone; split <;> simp
  · rfl

theorem State.outbound_timer (s : State) (o : FrameOrder) : (s.outbound o).1.timer = s.timer := by
  unfold State.outbound
  split
  · rfl
  · split
    · exact State.sendSymbol_timer ..
    · split
      · rfl
      · split
        · exact State.sendSymbol_timer ..
        · split
          · exact State.sendSymbol_timer ..
          · rfl

theorem State.sendSymbol_tlink (s : State) (r : Bool) (n : Nat) : (s.sendSymbol r n).1.tlink = s.tlink := by
  unfold State.sendSymbol; simp only; split
  · unfold State.messageGone; split <;> simp
  · rfl

theorem State.outbound_tlink (s : State) (o : FrameOrder) : (s.outbound o).1.tlink = s.tlink := by
  unfold State.outbound
  split
  · rfl
  · split
    · exact State.sendSymbol_tlink ..
    · split
      · rfl
      · split
        · exact State.sendSymbol_tlink ..
        · split
          · exact State.sendSymbol_tlink ..
          · rfl

theorem State.sendSymbol_hlink (s : State) (r : Bool) (n : Nat) : (s.sendSymbol r n).1.hlink = s.hlink := by
  unfold State.sendSymbol; simp only; split
  · unfold State.messageGone; split <;> simp
  · rfl

theorem State.outbound_hlink (s : State) (o : FrameOrder) : (s.outbound o).1.hlink = s.hlink := by
  unfold State.outbound
  split
  · rfl
  · split
    · exact State.sendSymbol_hlink ..
    · split
      · rfl
      · split
        · exact State.sendSymbol_hlink ..
        · split
          · exact State.sendSymbol_hlink ..
          · rfl

theorem State.sendSymbol_freeTaps (s : State) (r : Bool) (n : Nat) : (s.sendSymbol r n).1.freeTaps = s.freeTaps := by
  unfold State.sendSymbol; simp only; split
  · unfold State.messageGone; split <;> simp
  · rfl

theorem State.outbound_freeTaps (s : State) (o : FrameOrder) : (s.outbound o).1.freeTaps = s.freeTaps := by
  unfold State.outbound
  split
  · rfl
  · split
    · exact State.sendSymbol_freeTaps ..
    · split
      · rfl
      · split
        · exact State.sendSymbol_freeTaps ..
        · split
          · exact State.sendSymbol_freeTaps ..
          · rfl

theorem State.sendSymbol_profiles (s : State) (r : Bool) (n : Nat) : (s.sendSymbol r n).1.profiles = s.profiles := by
  unfold State.sendSymbol; simp only; split
  · unfold State.messageGone; split <;> simp
  · rfl

theorem State.outbound_profiles (s : State) (o : FrameOrder) : (s.outbound o).1.profiles = s.profiles := by
  unfold State.outbound
  split
  · rfl
  · split
    · exact State.sendSymbol_profiles ..
    · split
      · rfl
      · split
        · exact State.sendSymbol_profiles ..
        · split
          · exact State.sendSymbol_profiles ..
          · rfl

theorem State.sendSymbol_pendingProfiles (s : State) (r : Bool) (n : Nat) : (s.sendSymbol r n).1.pendingProfiles = s.pendingProfiles := by
  unfold State.sendSymbol; simp only; split
  · unfold State.messageGone; split <;> simp
  · rfl

theorem State.outbound_pendingProfiles (s : State) (o : FrameOrder) : (s.outbound o).1.pendingProfiles = s.pendingProfiles := by
  unfold State.outbound
  split
  · rfl
  · split
    · exact State.sendSymbol_pendingProfiles ..
    · split
      · rfl
      · split
        · exact State.sendSymbol_pendingProfiles ..
        · split
          · exact State.sendSymbol_pendingProfiles ..
          · rfl

theorem State.sendSymbol_routes (s : State) (r : Bool) (n : Nat) : (s.sendSymbol r n).1.routes = s.routes := by
  unfold State.sendSymbol; simp only; split
  · unfold State.messageGone; split <;> simp
  · rfl

theorem State.outbound_routes (s : State) (o : FrameOrder) : (s.outbound o).1.routes = s.routes := by
  unfold State.outbound
  split
  · rfl
  · split
    · exact State.sendSymbol_routes ..
    · split
      · rfl
      · split
        · exact State.sendSymbol_routes ..
        · split
          · exact State.sendSymbol_routes ..
          · rfl

theorem State.sendSymbol_debouncers (s : State) (r : Bool) (n : Nat) : (s.sendSymbol r n).1.debouncers = s.debouncers := by
  unfold State.sendSymbol; simp only; split
  · unfold State.messageGone; split <;> simp
  · rfl

theorem State.outbound_debouncers (s : State) (o : FrameOrder) : (s.outbound o).1.debouncers = s.debouncers := by
  unfold State.outbound
  split
  · rfl
  · split
    · exact State.sendSymbol_debouncers ..
    · split
      · rfl
      · split
        · exact State.sendSymbol_debouncers ..
        · split
          · exact State.sendSymbol_debouncers ..
          · rfl

theorem State.sendSymbol_keymap (s : State) (r : Bool) (n : Nat) : (s.sendSymbol r n).1.keymap = s.keymap := by
  unfold State.sendSymbol; simp only; split
  · unfold State.messageGone; split <;> simp
  · rfl

theorem State.outbound_keymap (s : State) (o : FrameOrder) : (s.outbound o).1.keymap = s.keymap := by
  unfold State.outbound
  split
  · rfl
  · split
    · exact State.sendSymbol_keymap ..
    · split
      · rfl
      · split
        · exact State.sendSymbol_keymap ..
        · split
          · exact State.sendSymbol_keymap ..
          · rfl

theorem State.sendSymbol_receiver (s : State) (r : Bool) (n : Nat) : (s.sendSymbol r n).1.receiver = s.receiver := by
  unfold State.sendSymbol; simp only; split
  · unfold State.messageGone; split <;> simp
  · rfl

theorem State.outbound_receiver (s : State) (o : FrameOrder) : (s.outbound o).1.receiver = s.receiver := by
  unfold State.outbound
  split
  · rfl
  · split
    · exact State.sendSymbol_receiver ..
    · split
      · rfl
      · split
        · exact State.sendSymbol_receiver ..
        · split
          · exact State.sendSymbol_receiver ..
          · rfl

theorem State.sendSymbol_inputQueue (s : State) (r : Bool) (n : Nat) : (s.sendSymbol r n).1.inputQueue = s.inputQueue := by
  unfold State.sendSymbol; simp only; split
  · unfold State.messageGone; split <;> simp
  · rfl

theorem State.outbound_inputQueue (s : State) (o : FrameOrder) : (s.outbound o).1.inputQueue = s.inputQueue := by
  unfold State.outbound
  split
  · rfl
  · split
    · exact State.sendSymbol_inputQueue ..
    · split
      · rfl
      · split
        · exact State.sendSymbol_inputQueue ..
        · split
          · exact State.sendSymbol_inputQueue ..
          · rfl

theorem State.sendSymbol_latch (s : State) (r : Bool) (n : Nat) : (s.sendSymbol r n).1.latch = s.latch := by
  unfold State.sendSymbol; simp only; split
  · unfold State.messageGone; split <;> simp
  · rfl

theorem State.outbound_latch (s : State) (o : FrameOrder) : (s.outbound o).1.latch = s.latch := by
  unfold State.outbound
  split
  · rfl
  · split
    · exact State.sendSymbol_latch ..
    · split
      · rfl
      · split
        · exact State.sendSymbol_latch ..
        · split
          · exact State.sendSymbol_latch ..
          · rfl

theorem State.sendSymbol_resetLow (s : State) (r : Bool) (n : Nat) : (s.sendSymbol r n).1.resetLow = s.resetLow := by
  unfold State.sendSymbol; simp only; split
  · unfold State.messageGone; split <;> simp
  · rfl

theorem State.outbound_resetLow (s : State) (o : FrameOrder) : (s.outbound o).1.resetLow = s.resetLow := by
  unfold State.outbound
  split
  · rfl
  · split
    · exact State.sendSymbol_resetLow ..
    · split
      · rfl
      · split
        · exact State.sendSymbol_resetLow ..
        · split
          · exact State.sendSymbol_resetLow ..
          · rfl

theorem State.sendSymbol_cuts (s : State) (r : Bool) (n : Nat) : (s.sendSymbol r n).1.cuts = s.cuts := by
  unfold State.sendSymbol; simp only; split
  · unfold State.messageGone; split <;> simp
  · rfl

theorem State.outbound_cuts (s : State) (o : FrameOrder) : (s.outbound o).1.cuts = s.cuts := by
  unfold State.outbound
  split
  · rfl
  · split
    · exact State.sendSymbol_cuts ..
    · split
      · rfl
      · split
        · exact State.sendSymbol_cuts ..
        · split
          · exact State.sendSymbol_cuts ..
          · rfl

theorem State.sendSymbol_pending (s : State) (r : Bool) (n : Nat) : (s.sendSymbol r n).1.pending = s.pending := by
  unfold State.sendSymbol; simp only; split
  · unfold State.messageGone; split <;> simp
  · rfl

theorem State.outbound_pending (s : State) (o : FrameOrder) : (s.outbound o).1.pending = s.pending := by
  unfold State.outbound
  split
  · rfl
  · split
    · exact State.sendSymbol_pending ..
    · split
      · rfl
      · split
        · exact State.sendSymbol_pending ..
        · split
          · exact State.sendSymbol_pending ..
          · rfl

theorem State.sendSymbol_fallback (s : State) (r : Bool) (n : Nat) : (s.sendSymbol r n).1.fallback = s.fallback := by
  unfold State.sendSymbol; simp only; split
  · unfold State.messageGone; split <;> simp
  · rfl

theorem State.outbound_fallback (s : State) (o : FrameOrder) : (s.outbound o).1.fallback = s.fallback := by
  unfold State.outbound
  split
  · rfl
  · split
    · exact State.sendSymbol_fallback ..
    · split
      · rfl
      · split
        · exact State.sendSymbol_fallback ..
        · split
          · exact State.sendSymbol_fallback ..
          · rfl

theorem State.sendSymbol_pos (s : State) (r : Bool) (n : Nat) : (s.sendSymbol r n).1.pos = s.pos := by
  unfold State.sendSymbol; simp only; split
  · unfold State.messageGone; split <;> simp
  · rfl

theorem State.outbound_pos (s : State) (o : FrameOrder) : (s.outbound o).1.pos = s.pos := by
  unfold State.outbound
  split
  · rfl
  · split
    · exact State.sendSymbol_pos ..
    · split
      · rfl
      · split
        · exact State.sendSymbol_pos ..
        · split
          · exact State.sendSymbol_pos ..
          · rfl

theorem State.sendSymbol_progs (s : State) (r : Bool) (n : Nat) : (s.sendSymbol r n).1.progs = s.progs := by
  unfold State.sendSymbol; simp only; split
  · unfold State.messageGone; split <;> simp
  · rfl

theorem State.outbound_progs (s : State) (o : FrameOrder) : (s.outbound o).1.progs = s.progs := by
  unfold State.outbound
  split
  · rfl
  · split
    · exact State.sendSymbol_progs ..
    · split
      · rfl
      · split
        · exact State.sendSymbol_progs ..
        · split
          · exact State.sendSymbol_progs ..
          · rfl

theorem State.sendSymbol_store (s : State) (r : Bool) (n : Nat) : (s.sendSymbol r n).1.store = s.store := by
  unfold State.sendSymbol; simp only; split
  · unfold State.messageGone; split <;> simp
  · rfl

theorem State.outbound_store (s : State) (o : FrameOrder) : (s.outbound o).1.store = s.store := by
  unfold State.outbound
  split
  · rfl
  · split
    · exact State.sendSymbol_store ..
    · split
      · rfl
      · split
        · exact State.sendSymbol_store ..
        · split
          · exact State.sendSymbol_store ..
          · rfl

theorem State.sendSymbol_outputs (s : State) (r : Bool) (n : Nat) : (s.sendSymbol r n).1.outputs = s.outputs := by
  unfold State.sendSymbol; simp only; split
  · unfold State.messageGone; split <;> simp
  · rfl

theorem State.outbound_outputs (s : State) (o : FrameOrder) : (s.outbound o).1.outputs = s.outputs := by
  unfold State.outbound
  split
  · rfl
  · split
    · exact State.sendSymbol_outputs ..
    · split
      · rfl
      · split
        · exact State.sendSymbol_outputs ..
        · split
          · exact State.sendSymbol_outputs ..
          · rfl

theorem State.sendSymbol_eventsLost (s : State) (r : Bool) (n : Nat) : (s.sendSymbol r n).1.eventsLost = s.eventsLost := by
  unfold State.sendSymbol; simp only; split
  · unfold State.messageGone; split <;> simp
  · rfl

theorem State.outbound_eventsLost (s : State) (o : FrameOrder) : (s.outbound o).1.eventsLost = s.eventsLost := by
  unfold State.outbound
  split
  · rfl
  · split
    · exact State.sendSymbol_eventsLost ..
    · split
      · rfl
      · split
        · exact State.sendSymbol_eventsLost ..
        · split
          · exact State.sendSymbol_eventsLost ..
          · rfl

/-! ## The computation -/

/-- The state after the weight step. -/
def State.weighed (s : State) : State := s.mapPosns fun _ x => stepWeights x

theorem State.compute_pos (s : State) (inp : FrameInputs) (w : Word) :
    (s.compute inp w).pos = Vector.ofFn fun p : Fin 32 => ((s.weighed.lanes inp).ears[p.val]).posn := by
  simp only [State.compute, State.drive]
  rw [State.outbound_pos, State.orderEvents_pos, State.signalWork,
    foldl_takeFrameEvent (fun s => s.pos) State.takeFrameEvent_pos]
  simp only [State.compareProgrammes, State.weighed]

theorem State.compute_posn (s : State) (inp : FrameInputs) (w : Word) (p : Position) :
    (s.compute inp w).posn p = ((s.weighed.lanes inp).ears[p.val]).posn := by
  simp [State.posn, State.compute_pos]

/-- The position that the frame's lanes end in, written out. -/
theorem State.lanes_posn (s : State) (inp : FrameInputs) (p : Position) :
    ((s.lanes inp).ears[p.val]).posn =
      (earLane s.store
        (routeSum (s.uplinks inp).signal (s.residuals inp (s.sends inp (s.uplinks inp))).signal
          s.latch.routes .ear p)
        ((s.residuals inp (s.sends inp (s.uplinks inp))).signal p) ((s.uplinks inp).signal p)
        ((s.residuals inp (s.sends inp (s.uplinks inp))).posn p)).posn := by
  simp [State.lanes, State.ears]

theorem State.residuals_posn (s : State) (inp : FrameInputs) (l : Lanes) (p : Position) :
    (s.residuals inp l).posn p =
      (residualLane (decide (s.tlink.state = .up)) (l.posn p) (s.returnSample inp (l.posn p)) (l.signal p)).posn := by
  simp [State.residuals, Lanes.posn]

theorem State.sends_posn (s : State) (inp : FrameInputs) (us : Lanes) (p : Position) :
    (s.sends inp us).posn p =
      (sendLane s.latch s.store.mem (s.progSample inp)
        (talkMix (us.signal p) (routeSum us.signal noResidual s.latch.routes .send p)) (us.posn p)).posn := by
  simp [State.sends, Lanes.posn]

theorem State.uplinks_posn (s : State) (inp : FrameInputs) (p : Position) :
    (s.uplinks inp).posn p =
      (uplinkLane (s.frameProfile p) (s.posn p) (s.micSample inp (s.posn p))).posn := by
  simp [State.uplinks, Lanes.posn]

/-! ## What one lane leaves of a position -/

@[simp] theorem uplinkLane_record (q : Profile) (x : PosState) (m : Int) :
    (uplinkLane q x m).posn.record = x.record := by
  unfold uplinkLane; split <;> rfl

@[simp] theorem uplinkLane_inForce (q : Profile) (x : PosState) (m : Int) :
    (uplinkLane q x m).posn.inForce = x.inForce := by
  unfold uplinkLane; split <;> rfl

@[simp] theorem uplinkLane_player (q : Profile) (x : PosState) (m : Int) :
    (uplinkLane q x m).posn.player = x.player := by
  unfold uplinkLane; split <;> rfl

@[simp] theorem uplinkLane_taps (q : Profile) (x : PosState) (m : Int) :
    (uplinkLane q x m).posn.taps = x.taps := by
  unfold uplinkLane; split <;> rfl

@[simp] theorem uplinkLane_ec (q : Profile) (x : PosState) (m : Int) :
    (uplinkLane q x m).posn.ec = x.ec := by
  unfold uplinkLane; split <;> rfl

@[simp] theorem uplinkLane_shock (q : Profile) (x : PosState) (m : Int) :
    (uplinkLane q x m).posn.shock = x.shock := by
  unfold uplinkLane; split <;> rfl

/-- The send lane moves the hold pointer alone. -/
theorem sendLane_posn (l : Latch) (mem : List ClipCell) (g : ProgId → Int) (t : Int) (x : PosState) :
    (sendLane l mem g t x).posn =
      { x with
        record := { x.record with
          holdPtr :=
            if x.isClosed = true ∨ x.record.h = 0 then x.record.holdPtr
            else holdPtrAfter l x } } := by
  unfold sendLane
  by_cases hc : x.isClosed = true
  · simp [hc]
  · by_cases hh : x.record.h = 0
    · simp [hc, hh]
      simp [← hh]
    · simp [hc, hh]

/-- The canceller's lane moves the canceller and the coefficients alone. -/
theorem residualLane_posn (up : Bool) (x : PosState) (d e : Int) :
    (residualLane up x d e).posn =
      { x with
        ec := (ecFrame up x.isClosed x.inForce.params x.ec x.taps.elems d e).ec
        taps := { x.taps with
          elems := (ecFrame up x.isClosed x.inForce.params x.ec x.taps.elems d e).elems } } := rfl

@[simp] theorem earLane_record (st : ClipStore) (r e u : Int) (x : PosState) :
    (earLane st r e u x).posn.record = x.record := by
  unfold earLane; simp only; split <;> rfl

@[simp] theorem earLane_taps (st : ClipStore) (r e u : Int) (x : PosState) :
    (earLane st r e u x).posn.taps = x.taps := by
  unfold earLane; simp only; split <;> rfl

@[simp] theorem earLane_ec (st : ClipStore) (r e u : Int) (x : PosState) :
    (earLane st r e u x).posn.ec = x.ec := by
  unfold earLane; simp only; split <;> rfl

@[simp] theorem earLane_ns (st : ClipStore) (r e u : Int) (x : PosState) :
    (earLane st r e u x).posn.ns = x.ns := by
  unfold earLane; simp only; split <;> rfl

@[simp] theorem earLane_inForce (st : ClipStore) (r e u : Int) (x : PosState) :
    (earLane st r e u x).posn.inForce = x.inForce := by
  unfold earLane; simp only; split <;> rfl

@[simp] theorem earLane_player (st : ClipStore) (r e u : Int) (x : PosState) :
    (earLane st r e u x).posn.player = (playerFrame x.isClosed x.player st).player := by
  unfold earLane; simp only; split <;> rfl

/-- An update keeps the index and the kind of every tap element (R44). -/
theorem adaptTaps_keeps (f : Int) (l : List TapElem) (hist : List Word) :
    (adaptTaps f l hist).map (fun e => (e.block.index, e.attached)) =
      l.map fun e => (e.block.index, e.attached) := by
  induction l generalizing hist with
  | nil => rfl
  | cons e es ih =>
    unfold adaptTaps
    split
    · simp [ih]
    · simp [ih]

/-! ## The record after a frame (R3, R97) -/

/-- The record after a computed frame: the three weights stepped, and the hold pointer moved where a
hold input was formed. -/
theorem State.compute_record (s : State) (inp : FrameInputs) (w : Word) (p : Position) :
    ((s.compute inp w).posn p).record =
      { (stepWeights (s.posn p)).record with
        holdPtr :=
          if (stepWeights (s.posn p)).isClosed = true ∨ (stepWeights (s.posn p)).record.h = 0 then
            (s.posn p).record.holdPtr
          else holdPtrAfter s.latch (s.posn p) } := by
  rw [State.compute_posn, State.lanes_posn, earLane_record, State.residuals_posn, residualLane_posn,
    State.sends_posn, sendLane_posn, State.uplinks_posn]
  simp only [uplinkLane_record, uplinkLane_inForce, PosState.isClosed, holdPtrAfter, decide_eq_true_eq]
  simp only [State.weighed, State.posn_mapPosns, State.mapPosns_latch]
  rfl

/-! ## The end of a frame -/

@[simp] theorem State.endFrame_posn (s : State) (p : Position) : s.endFrame.posn p = latchPosn (s.posn p) := by
  simp [State.endFrame, State.posn, State.mapPosns]

/-- A closing frame takes no message where none waits. -/
theorem State.closeIf_eq {s : State} (hq : s.inputQueue = []) (o : FrameOrder) :
    s.closeIf o = if o.closes then s.endFrame else s := by
  simp [State.closeIf, hq]

theorem State.closeIf_record {s : State} (hq : s.inputQueue = []) (o : FrameOrder) (p : Position) :
    ((s.closeIf o).posn p).record = (s.posn p).record := by
  rw [State.closeIf_eq hq]
  split
  · simp [latchPosn]
  · rfl

@[simp] theorem State.endFrame_tlink (s : State) : s.endFrame.tlink = s.tlink := by
  simp only [State.endFrame, State.mapPosns]

theorem State.closeIf_tlink {s : State} (hq : s.inputQueue = []) (o : FrameOrder) :
    (s.closeIf o).tlink = s.tlink := by
  rw [State.closeIf_eq hq]; split
  · exact State.endFrame_tlink s
  · rfl

@[simp] theorem State.endFrame_hlink (s : State) : s.endFrame.hlink = s.hlink := by
  simp only [State.endFrame, State.mapPosns]

theorem State.closeIf_hlink {s : State} (hq : s.inputQueue = []) (o : FrameOrder) :
    (s.closeIf o).hlink = s.hlink := by
  rw [State.closeIf_eq hq]; split
  · exact State.endFrame_hlink s
  · rfl

@[simp] theorem State.endFrame_freeTaps (s : State) : s.endFrame.freeTaps = s.freeTaps := by
  simp only [State.endFrame, State.mapPosns]

theorem State.closeIf_freeTaps {s : State} (hq : s.inputQueue = []) (o : FrameOrder) :
    (s.closeIf o).freeTaps = s.freeTaps := by
  rw [State.closeIf_eq hq]; split
  · exact State.endFrame_freeTaps s
  · rfl

@[simp] theorem State.endFrame_profiles (s : State) : s.endFrame.profiles = s.profiles := by
  simp only [State.endFrame, State.mapPosns]

theorem State.closeIf_profiles {s : State} (hq : s.inputQueue = []) (o : FrameOrder) :
    (s.closeIf o).profiles = s.profiles := by
  rw [State.closeIf_eq hq]; split
  · exact State.endFrame_profiles s
  · rfl

@[simp] theorem State.endFrame_pendingProfiles (s : State) : s.endFrame.pendingProfiles = s.pendingProfiles := by
  simp only [State.endFrame, State.mapPosns]

theorem State.closeIf_pendingProfiles {s : State} (hq : s.inputQueue = []) (o : FrameOrder) :
    (s.closeIf o).pendingProfiles = s.pendingProfiles := by
  rw [State.closeIf_eq hq]; split
  · exact State.endFrame_pendingProfiles s
  · rfl

@[simp] theorem State.endFrame_routes (s : State) : s.endFrame.routes = s.routes := by
  simp only [State.endFrame, State.mapPosns]

theorem State.closeIf_routes {s : State} (hq : s.inputQueue = []) (o : FrameOrder) :
    (s.closeIf o).routes = s.routes := by
  rw [State.closeIf_eq hq]; split
  · exact State.endFrame_routes s
  · rfl

@[simp] theorem State.endFrame_debouncers (s : State) : s.endFrame.debouncers = s.debouncers := by
  simp only [State.endFrame, State.mapPosns]

theorem State.closeIf_debouncers {s : State} (hq : s.inputQueue = []) (o : FrameOrder) :
    (s.closeIf o).debouncers = s.debouncers := by
  rw [State.closeIf_eq hq]; split
  · exact State.endFrame_debouncers s
  · rfl

@[simp] theorem State.endFrame_keymap (s : State) : s.endFrame.keymap = s.keymap := by
  simp only [State.endFrame, State.mapPosns]

theorem State.closeIf_keymap {s : State} (hq : s.inputQueue = []) (o : FrameOrder) :
    (s.closeIf o).keymap = s.keymap := by
  rw [State.closeIf_eq hq]; split
  · exact State.endFrame_keymap s
  · rfl

@[simp] theorem State.endFrame_receiver (s : State) : s.endFrame.receiver = s.receiver := by
  simp only [State.endFrame, State.mapPosns]

theorem State.closeIf_receiver {s : State} (hq : s.inputQueue = []) (o : FrameOrder) :
    (s.closeIf o).receiver = s.receiver := by
  rw [State.closeIf_eq hq]; split
  · exact State.endFrame_receiver s
  · rfl

@[simp] theorem State.endFrame_inputQueue (s : State) : s.endFrame.inputQueue = s.inputQueue := by
  simp only [State.endFrame, State.mapPosns]

theorem State.closeIf_inputQueue {s : State} (hq : s.inputQueue = []) (o : FrameOrder) :
    (s.closeIf o).inputQueue = s.inputQueue := by
  rw [State.closeIf_eq hq]; split
  · exact State.endFrame_inputQueue s
  · rfl

@[simp] theorem State.endFrame_resetLow (s : State) : s.endFrame.resetLow = s.resetLow := by
  simp only [State.endFrame, State.mapPosns]

theorem State.closeIf_resetLow {s : State} (hq : s.inputQueue = []) (o : FrameOrder) :
    (s.closeIf o).resetLow = s.resetLow := by
  rw [State.closeIf_eq hq]; split
  · exact State.endFrame_resetLow s
  · rfl

@[simp] theorem State.endFrame_cuts (s : State) : s.endFrame.cuts = s.cuts := by
  simp only [State.endFrame, State.mapPosns]

theorem State.closeIf_cuts {s : State} (hq : s.inputQueue = []) (o : FrameOrder) :
    (s.closeIf o).cuts = s.cuts := by
  rw [State.closeIf_eq hq]; split
  · exact State.endFrame_cuts s
  · rfl

@[simp] theorem State.endFrame_pending (s : State) : s.endFrame.pending = s.pending := by
  simp only [State.endFrame, State.mapPosns]

theorem State.closeIf_pending {s : State} (hq : s.inputQueue = []) (o : FrameOrder) :
    (s.closeIf o).pending = s.pending := by
  rw [State.closeIf_eq hq]; split
  · exact State.endFrame_pending s
  · rfl

@[simp] theorem State.endFrame_fallback (s : State) : s.endFrame.fallback = s.fallback := by
  simp only [State.endFrame, State.mapPosns]

theorem State.closeIf_fallback {s : State} (hq : s.inputQueue = []) (o : FrameOrder) :
    (s.closeIf o).fallback = s.fallback := by
  rw [State.closeIf_eq hq]; split
  · exact State.endFrame_fallback s
  · rfl

@[simp] theorem State.endFrame_progs (s : State) : s.endFrame.progs = s.progs := by
  simp only [State.endFrame, State.mapPosns]

theorem State.closeIf_progs {s : State} (hq : s.inputQueue = []) (o : FrameOrder) :
    (s.closeIf o).progs = s.progs := by
  rw [State.closeIf_eq hq]; split
  · exact State.endFrame_progs s
  · rfl

@[simp] theorem State.endFrame_store (s : State) : s.endFrame.store = s.store := by
  simp only [State.endFrame, State.mapPosns]

theorem State.closeIf_store {s : State} (hq : s.inputQueue = []) (o : FrameOrder) :
    (s.closeIf o).store = s.store := by
  rw [State.closeIf_eq hq]; split
  · exact State.endFrame_store s
  · rfl

@[simp] theorem State.endFrame_events (s : State) : s.endFrame.events = s.events := by
  simp only [State.endFrame, State.mapPosns]

theorem State.closeIf_events {s : State} (hq : s.inputQueue = []) (o : FrameOrder) :
    (s.closeIf o).events = s.events := by
  rw [State.closeIf_eq hq]; split
  · exact State.endFrame_events s
  · rfl

@[simp] theorem State.endFrame_eventsLost (s : State) : s.endFrame.eventsLost = s.eventsLost := by
  simp only [State.endFrame, State.mapPosns]

theorem State.closeIf_eventsLost {s : State} (hq : s.inputQueue = []) (o : FrameOrder) :
    (s.closeIf o).eventsLost = s.eventsLost := by
  rw [State.closeIf_eq hq]; split
  · exact State.endFrame_eventsLost s
  · rfl

@[simp] theorem State.endFrame_replies (s : State) : s.endFrame.replies = s.replies := by
  simp only [State.endFrame, State.mapPosns]

theorem State.closeIf_replies {s : State} (hq : s.inputQueue = []) (o : FrameOrder) :
    (s.closeIf o).replies = s.replies := by
  rw [State.closeIf_eq hq]; split
  · exact State.endFrame_replies s
  · rfl

@[simp] theorem State.endFrame_arbiter (s : State) : s.endFrame.arbiter = s.arbiter := by
  simp only [State.endFrame, State.mapPosns]

theorem State.closeIf_arbiter {s : State} (hq : s.inputQueue = []) (o : FrameOrder) :
    (s.closeIf o).arbiter = s.arbiter := by
  rw [State.closeIf_eq hq]; split
  · exact State.endFrame_arbiter s
  · rfl

@[simp] theorem State.endFrame_outputs (s : State) : s.endFrame.outputs = s.outputs := by
  simp only [State.endFrame, State.mapPosns]

theorem State.closeIf_outputs {s : State} (hq : s.inputQueue = []) (o : FrameOrder) :
    (s.closeIf o).outputs = s.outputs := by
  rw [State.closeIf_eq hq]; split
  · exact State.endFrame_outputs s
  · rfl

end Sys2Proof.Machine
end

