-- ==== Sys2Proof/Laws/Links.lean ====
section
/-!
SUPPORT. What the operations at the borders of a frame can do, each said once: taking the head of the input
queue (R162), ending an open frame, a quiet window (R153), a status word (R137, R153), and the frame that a
fourth good marker cuts short (R147).
-/

namespace Sys2Proof.Machine

/-! ## Taking a message (R162) -/

theorem State.takeHead_nil {s : State} (h : s.inputQueue = []) : s.takeHead = s := by
  simp [State.takeHead, h]

theorem State.takeHead_cons {s : State} {m : Message} {rest : List Message} (h : s.inputQueue = m :: rest)
    (hc : s.canTake = true) : s.takeHead = runMessage m ({ s with inputQueue := rest }.busy m.kind) := by
  simp [State.takeHead, h, hc]

theorem State.takeHead_waits {s : State} (hc : s.canTake = false) : s.takeHead = s := by
  unfold State.takeHead
  split
  · rfl
  · simp [hc]

/-! ## The end of an open frame -/

@[simp] theorem State.closeOpenFrame_open {s : State} (h : s.flags.computed = false) :
    s.closeOpenFrame = s := by
  simp [State.closeOpenFrame, h]

theorem State.closeOpenFrame_computed {s : State} (h : s.flags.computed = true) :
    s.closeOpenFrame = s.takeHead.endFrame := by
  simp [State.closeOpenFrame, h]

/-- The frame that begins has no computation. -/
@[simp] theorem State.endFrame_computed (s : State) : s.endFrame.flags.computed = false := rfl

@[simp] theorem State.closeOpenFrame_flags_computed (s : State) :
    s.closeOpenFrame.flags.computed = false := by
  by_cases h : s.flags.computed = true
  · simp [State.closeOpenFrame_computed h]
  · simp only [Bool.not_eq_true] at h
    simp [h]

/-! ## The quiet window (R153) -/

/-- A window in DRIVING, in a frame whose computation has not been made. -/
theorem State.quietWindow_open {s : State} (hd : s.hlink.state = .driving) (ha : s.flags.armed = false)
    (hc : s.flags.computed = false) (b : Bool) : s.quietWindow b = s.sense b := by
  simp [State.quietWindow, hd, ha, hc]

/-- In CONFLICT the window is not sensed. -/
theorem State.quietWindow_conflict {s : State} (hd : s.hlink.state = .conflict) (b : Bool) :
    s.quietWindow b = s := by
  simp [State.quietWindow, hd]

/-! ## A status word (R137, R153) -/

theorem State.arrive_invalid {s : State} {w : Word} (h : s.arrivalValid w = false) : s.arrive w = s := by
  simp [State.arrive, h]

theorem State.arrive_taken {s : State} {w : Word} (h : s.arrivalValid w = true)
    (hm : s.mayConflict = false) : s.arrive w = s.takeWord w := by
  simp [State.arrive, h, hm]

theorem State.arrive_waits {s : State} {w : Word} (h : s.arrivalValid w = true)
    (hm : s.mayConflict = true) :
    s.arrive w = { s with flags := { s.flags with heldWords := s.flags.heldWords ++ [w] } } := by
  simp [State.arrive, h, hm]

/-! ## The frame that the fourth good marker cuts short (R147) -/

theorem State.cutShort_computed {s : State} (h : s.flags.computed = true) :
    s.cutShort = s.takeHead.endFrame := by
  simp [State.cutShort, h, State.closeOpenFrame_computed h]

/-- Any other frame in progress makes its computation, on free values, and ends: it does what FRAME does on
them. -/
theorem State.cutShort_open {s : State} (h : s.flags.computed = false) (hr : s.resetLow = false) :
    execFrame (cutInputs s.cuts) { s with cuts := s.cuts + 1 } = .next s.cutShort := by
  simp [execFrame, State.whenRunning, State.cutShort, h, hr]

/-- A frame that closes has ended. -/
theorem State.closeIf_ends {s : State} {o : FrameOrder} (h : o.closes = true) :
    (s.closeIf o).flags.computed = false := by
  unfold State.closeIf
  rw [if_pos h]
  split <;> rfl

/-- The frame that the marker opens has no computation, whatever was cut short. -/
theorem State.cutShort_flags_computed (s : State) : s.cutShort.flags.computed = false := by
  unfold State.cutShort
  split
  · simp
  · next h =>
    rw [State.frameStep, if_neg (by simpa using h)]
    exact State.closeIf_ends rfl

end Sys2Proof.Machine
end

