-- ==== Sys2Proof/Laws/Memory.lean ====
section
/-!
SUPPORT. Clip memory: the canonical form is kept by every memory operation, a word written is the word
read, and every other word stands. The use counts and the free list leave memory alone.
-/

namespace Sys2Proof.Machine

theorem memWfFrom_mono {lo hi : Nat} (h : lo ≤ hi) {m : List ClipCell} (hm : memWfFrom hi m = true) :
    memWfFrom lo m = true := by
  cases m with
  | nil => rfl
  | cons c m =>
    obtain ⟨a, w⟩ := c
    simp only [memWfFrom, Bool.and_eq_true, decide_eq_true_eq] at hm ⊢
    exact ⟨⟨⟨by omega, hm.1.1.2⟩, hm.1.2⟩, hm.2⟩

/-- An address below every listed one reads 0. -/
theorem memRead_below {lo a : Nat} (h : a < lo) {m : List ClipCell} (hm : memWfFrom lo m = true) :
    memRead m a = 0 := by
  induction m generalizing lo with
  | nil => rfl
  | cons c m ih =>
    obtain ⟨b, w⟩ := c
    simp only [memWfFrom, Bool.and_eq_true, decide_eq_true_eq] at hm
    simp only [memRead]
    rw [if_neg (by omega)]
    exact ih (by omega) hm.2

theorem memPut_wfFrom {lo a : Nat} (w : Word) (hl : lo ≤ a) (ha : a < Config.clipWords)
    {m : List ClipCell} (hm : memWfFrom lo m = true) : memWfFrom lo (memPut m a w) = true := by
  have cell : ∀ {b : Nat} {v : Word} {r : List ClipCell}, lo ≤ b → b < Config.clipWords → v ≠ 0 →
      memWfFrom (b + 1) r = true → memWfFrom lo ((b, v) :: r) = true := by
    intro b v r h1 h2 h3 h4
    simp only [memWfFrom, Bool.and_eq_true, decide_eq_true_eq]
    exact ⟨⟨⟨h1, h2⟩, h3⟩, h4⟩
  induction m generalizing lo with
  | nil =>
    simp only [memPut]
    split
    · rfl
    · exact cell hl ha (by assumption) rfl
  | cons c m ih =>
    obtain ⟨b, v⟩ := c
    simp only [memWfFrom, Bool.and_eq_true, decide_eq_true_eq] at hm
    obtain ⟨⟨⟨h1, h2⟩, h3⟩, h4⟩ := hm
    simp only [memPut]
    split
    · refine cell h1 h2 h3 (ih (by omega) h4 ?_)
      intro b' v' r g1 g2 g3 g4
      simp only [memWfFrom, Bool.and_eq_true, decide_eq_true_eq]
      exact ⟨⟨⟨g1, g2⟩, g3⟩, g4⟩
    · split
      · subst b
        split
        · exact memWfFrom_mono (by omega) h4
        · exact cell hl ha (by assumption) h4
      · split
        · exact cell h1 h2 h3 h4
        · refine cell hl ha (by assumption) ?_
          simp only [memWfFrom, Bool.and_eq_true, decide_eq_true_eq]
          exact ⟨⟨⟨by omega, h2⟩, h3⟩, h4⟩

/-- A write keeps the canonical form. -/
theorem memWrite_wf {m : List ClipCell} (a : Nat) (w : Word) (hm : Memory.wf m = true) :
    Memory.wf (memWrite m a w) = true := by
  unfold memWrite
  split
  · exact memPut_wfFrom w (Nat.zero_le _) (by assumption) hm
  · exact hm

/-- Writes in order keep the canonical form. -/
theorem memWriteAll_wf (ws : List Word) {m : List ClipCell} (a : Nat) (hm : Memory.wf m = true) :
    Memory.wf (memWriteAll m a ws) = true := by
  induction ws generalizing m a with
  | nil => exact hm
  | cons w ws ih => exact ih _ (memWrite_wf a w hm)

theorem State.reset_mem_wf : Memory.wf State.reset.store.mem = true := rfl

/-- A put word is the word read at its address, and no other word changes. -/
theorem memRead_memPut {lo : Nat} (a : Nat) (w : Word) {m : List ClipCell} (hm : memWfFrom lo m = true)
    (i : Nat) : memRead (memPut m a w) i = if i = a then w else memRead m i := by
  induction m generalizing lo with
  | nil =>
    by_cases hw : w = 0#16 <;> by_cases hi : a = i <;>
      simp [memPut, memRead, hw, hi, eq_comm (a := i)]
  | cons c m ih =>
    obtain ⟨b, v⟩ := c
    simp only [memWfFrom, Bool.and_eq_true, decide_eq_true_eq] at hm
    have ih := ih hm.2
    simp only [memPut]
    split
    · simp only [memRead, ih]
      by_cases hb : b = i
      · rw [if_pos hb, if_pos hb, if_neg (by omega)]
      · rw [if_neg hb, if_neg hb]
    · split
      · subst b
        by_cases hi : i = a
        · subst hi
          by_cases hw : w = 0#16
          · simp [hw, memRead_below (Nat.lt_succ_self i) hm.2]
          · simp [hw, memRead]
        · have hi' : ¬ a = i := fun h => hi h.symm
          by_cases hw : w = 0#16 <;> simp [hw, memRead, hi, hi']
      · have hab : a < b := by omega
        by_cases hi : i = a
        · subst hi
          have h0 : memRead m i = 0 := memRead_below (by omega) hm.2
          have hb : ¬ b = i := by omega
          by_cases hw : w = 0#16 <;> simp [hw, memRead, hb, h0]
        · have hi' : ¬ a = i := fun h => hi h.symm
          by_cases hw : w = 0#16 <;> simp [hw, memRead, hi, hi']

/-- The word read after writes in order (R110). -/
theorem memRead_memWriteAll (ws : List Word) {m : List ClipCell} (a : Nat) (hm : Memory.wf m = true)
    (ha : a + ws.length ≤ Config.clipWords) (i : Nat) :
    memRead (memWriteAll m a ws) i =
      if a ≤ i ∧ i < a + ws.length then ws.getD (i - a) 0 else memRead m i := by
  induction ws generalizing m a with
  | nil => simp [memWriteAll] <;> omega
  | cons w ws ih =>
    simp only [List.length_cons] at ha ⊢
    rw [memWriteAll, ih (a + 1) (memWrite_wf a w hm) (by omega)]
    have hw : memWrite m a w = memPut m a w := if_pos (by omega)
    rw [hw, memRead_memPut a w hm]
    by_cases h1 : i = a
    · subst h1
      rw [if_neg (by omega), if_pos rfl, if_pos (by omega)]
      simp
    · by_cases h2 : a + 1 ≤ i ∧ i < a + 1 + ws.length
      · rw [if_pos h2, if_pos (by omega)]
        have : i - a = (i - (a + 1)) + 1 := by omega
        rw [this]
        simp
      · rw [if_neg h2, if_neg h1, if_neg (by omega)]

/-! ## The clip table -/

@[simp] theorem ClipStore.clip_setClip_self (st : ClipStore) (c : ClipId) (r : Clip) :
    (st.setClip c r).clip c = r := by
  simp [ClipStore.clip, ClipStore.setClip]

@[simp] theorem ClipStore.clip_setClip_ne (st : ClipStore) {c d : ClipId} (r : Clip) (h : d ≠ c) :
    (st.setClip c r).clip d = st.clip d := by
  have : c.val ≠ d.val := fun e => h (Fin.ext e.symm)
  simp [ClipStore.clip, ClipStore.setClip, this]

@[simp] theorem ClipStore.setClip_mem (st : ClipStore) (c : ClipId) (r : Clip) :
    (st.setClip c r).mem = st.mem := rfl

@[simp] theorem ClipStore.setClip_free (st : ClipStore) (c : ClipId) (r : Clip) :
    (st.setClip c r).free = st.free := rfl

@[simp] theorem ClipStore.emptyClip_mem (st : ClipStore) (c : ClipId) : (st.emptyClip c).mem = st.mem := rfl

@[simp] theorem ClipStore.takeUse_mem (st : ClipStore) (c : ClipId) : (st.takeUse c).mem = st.mem := rfl

@[simp] theorem ClipStore.takeUse_free (st : ClipStore) (c : ClipId) : (st.takeUse c).free = st.free := rfl

@[simp] theorem ClipStore.releaseUse_mem (st : ClipStore) (c : ClipId) :
    (st.releaseUse c).1.mem = st.mem := by
  unfold ClipStore.releaseUse; simp only; split <;> rfl

/-- What a release can do: lower the count, or empty a RETIRING clip at its last use (R113, R114). -/
theorem ClipStore.releaseUse_cases (st : ClipStore) (c : ClipId) :
    ((st.clip c).state = .retiring ∧ (st.clip c).uses ≤ 1 ∧
      st.releaseUse c =
        ((st.setClip c { st.clip c with uses := (st.clip c).uses - 1 }).emptyClip c, [.clipFreed c])) ∨
    (((st.clip c).state ≠ .retiring ∨ 2 ≤ (st.clip c).uses) ∧
      st.releaseUse c = (st.setClip c { st.clip c with uses := (st.clip c).uses - 1 }, [])) := by
  by_cases h : (st.clip c).state = .retiring ∧ (st.clip c).uses - 1 = 0
  · exact .inl ⟨h.1, by omega, by simp [ClipStore.releaseUse, h]⟩
  · refine .inr ⟨?_, by simp only [ClipStore.releaseUse]; rw [if_neg h]⟩
    by_cases hs : (st.clip c).state = .retiring
    · exact .inr (by
        have : ¬ (st.clip c).uses - 1 = 0 := fun e => h ⟨hs, e⟩
        omega)
    · exact .inl hs

/-! ## Allocation (R108) -/

/-- First fit: the extent taken is the first that is long enough. -/
theorem allocate_first (n : Nat) (pre post : List Extent) (x : Extent)
    (hp : ∀ y ∈ pre, y.length < n) (hx : n ≤ x.length) :
    allocate n (pre ++ x :: post) =
      some (x.start, pre ++
        (if x.length = n then post else { start := x.start + n, length := x.length - n } :: post)) := by
  induction pre with
  | nil => simp [allocate, hx]
  | cons y ys ih =>
    have hy := hp y (by simp)
    simp [allocate, Nat.not_le.mpr hy, ih fun z hz => hp z (by simp [hz])]

/-- No extent is long enough. -/
theorem allocate_none (n : Nat) (l : List Extent) (h : ∀ y ∈ l, y.length < n) : allocate n l = none := by
  induction l with
  | nil => rfl
  | cons y ys ih =>
    simp [allocate, Nat.not_le.mpr (h y (by simp)), ih fun z hz => h z (by simp [hz])]

end Sys2Proof.Machine
end

