-- ==== Sys2Proof/Laws/PerInstr.lean ====
section
/-!
SUPPORT. The family `BodyBound`: what is true of each command as syntax. A well-formed message row stands
for a message whose body fits the link's 16 words (R156).
-/

namespace Sys2Proof.Laws

open Sys2Proof.Machine

/-- The message that a row hands to the part, for the message rows; none for every other row. -/
def messageOf : Instr → Option Message
  | .posMap args => some { kind := 0x01, body := args }
  | .posOpen args => some { kind := 0x02, body := args }
  | .posClose args => some { kind := 0x03, body := args }
  | .posHold args => some { kind := 0x04, body := args }
  | .posMute args => some { kind := 0x05, body := args }
  | .posVolumeAbsolute args => some { kind := 0x06, body := withMode 0 args }
  | .posVolumeStepUp args => some { kind := 0x06, body := withMode 1 args }
  | .posVolumeStepDown args => some { kind := 0x06, body := withMode 2 args }
  | .posSet args => some { kind := 0x07, body := args }
  | .posQuery args => some { kind := 0x08, body := args }
  | .posTail args => some { kind := 0x09, body := args }
  | .ecControlFreeze args => some { kind := 0x10, body := withMode 0 args }
  | .ecControlThaw args => some { kind := 0x10, body := withMode 1 args }
  | .ecControlReset args => some { kind := 0x10, body := withMode 2 args }
  | .ecReport args => some { kind := 0x11, body := args }
  | .profileWrite args => some { kind := 0x18, body := args }
  | .profileRead args => some { kind := 0x19, body := args }
  | .routePut args => some { kind := 0x20, body := args }
  | .routeDrop args => some { kind := 0x21, body := args }
  | .routeRevert args => some { kind := 0x22, body := args }
  | .routeCommit args => some { kind := 0x23, body := args }
  | .routeCommitApply => none
  | .routeList args => some { kind := 0x24, body := args }
  | .progSet args => some { kind := 0x28, body := args }
  | .fallbackSet args => some { kind := 0x29, body := args }
  | .progQuery args => some { kind := 0x2A, body := args }
  | .clipBegin args => some { kind := 0x30, body := args }
  | .clipData args => some { kind := 0x31, body := args }
  | .clipCancel args => some { kind := 0x32, body := args }
  | .clipDelete args => some { kind := 0x33, body := args }
  | .clipQuery args => some { kind := 0x34, body := args }
  | .promptPlay args => some { kind := 0x38, body := args ++ [0] }
  | .promptPlayUrgent args => some { kind := 0x38, body := args ++ [1] }
  | .promptStopNow args => some { kind := 0x39, body := withMode 0 args }
  | .promptStopAfterPass args => some { kind := 0x39, body := withMode 1 args }
  | .promptStopFlush args => some { kind := 0x39, body := withMode 2 args }
  | .promptQuery args => some { kind := 0x3A, body := args }
  | .shockSet args => some { kind := 0x40, body := args }
  | .shockClear args => some { kind := 0x41, body := args }
  | .shockQuery args => some { kind := 0x42, body := args }
  | .keymapSet args => some { kind := 0x48, body := args }
  | .linkArm args => some { kind := 0x50, body := args }
  | .resume args => some { kind := 0x51, body := args }
  | .devQuery args => some { kind := 0x52, body := args }
  | .devReset args => some { kind := 0x53, body := args }
  | .devResetPerform => none
  | .unknownKind kind args => some { kind := kind, body := args }
  | .pinReset => none
  | .frame _ => none
  | .hangoverExpire _ _ => none
  | .promptPassComplete _ _ => none
  | .shockOn _ _ => none
  | .shockOff _ _ => none
  | .messageSent _ => none
  | .holdLeaveComplete _ _ => none
  | .positionTurn _ => none
  | .openingExit _ => none
  | .closingEntry _ => none
  | .teardown _ => none
  | .tailChangeApply _ => none
  | .ecConverged _ => none
  | .ecDiverged _ => none
  | .shockHoldExpire _ => none
  | .cycleStart => none
  | .progSilent _ => none
  | .profilePendingApply => none
  | .tlinkMarker _ => none
  | .tlinkLostExpire => none
  | .mgmtSymbol _ _ => none
  | .gapTimeout => none
  | .mgmtBreak => none
  | .statusWordArrival _ => none
  | .keyEdge _ _ => none
  | .presenceEdge _ => none
  | .hlinkQuietWindow _ => none
  | .syncPatternFound _ => none
  | .resetNAssert => none

/-- The bound of R156 for one command. -/
def BodyBound.Statement (i : Instr) : Prop :=
  i.wellFormed = true → ∀ m, messageOf i = some m → m.body.length ≤ 16

/-- A message whose body is at most `n` words longer than arguments that leave room for `n` fits. -/
theorem fits_of_room {k : Byte} {body args : List Word} {n : Nat} {m : Message}
    (hb : body.length ≤ args.length + n) (h : bodyFits n args = true)
    (hm : some { kind := k, body := body } = some m) : m.body.length ≤ 16 := by
  obtain rfl := Option.some.inj hm
  exact Nat.le_trans hb (of_decide_eq_true h)

theorem withMode_length (mode : Word) (l : List Word) : (withMode mode l).length = l.length + 1 := by
  cases l <;> rfl

theorem BodyBound.posMap (args : List Word) : BodyBound.Statement (.posMap args) := fun h _ hm =>
  fits_of_room (Nat.le_refl _) h hm

theorem BodyBound.posOpen (args : List Word) : BodyBound.Statement (.posOpen args) := fun h _ hm =>
  fits_of_room (Nat.le_refl _) h hm

theorem BodyBound.posClose (args : List Word) : BodyBound.Statement (.posClose args) := fun h _ hm =>
  fits_of_room (Nat.le_refl _) h hm

theorem BodyBound.posHold (args : List Word) : BodyBound.Statement (.posHold args) := fun h _ hm =>
  fits_of_room (Nat.le_refl _) h hm

theorem BodyBound.posMute (args : List Word) : BodyBound.Statement (.posMute args) := fun h _ hm =>
  fits_of_room (Nat.le_refl _) h hm

theorem BodyBound.posVolumeAbsolute (args : List Word) : BodyBound.Statement (.posVolumeAbsolute args) := fun h _ hm =>
  fits_of_room (Nat.le_of_eq (withMode_length _ _)) h hm

theorem BodyBound.posVolumeStepUp (args : List Word) : BodyBound.Statement (.posVolumeStepUp args) := fun h _ hm =>
  fits_of_room (Nat.le_of_eq (withMode_length _ _)) h hm

theorem BodyBound.posVolumeStepDown (args : List Word) : BodyBound.Statement (.posVolumeStepDown args) := fun h _ hm =>
  fits_of_room (Nat.le_of_eq (withMode_length _ _)) h hm

theorem BodyBound.posSet (args : List Word) : BodyBound.Statement (.posSet args) := fun h _ hm =>
  fits_of_room (Nat.le_refl _) h hm

theorem BodyBound.posQuery (args : List Word) : BodyBound.Statement (.posQuery args) := fun h _ hm =>
  fits_of_room (Nat.le_refl _) h hm

theorem BodyBound.posTail (args : List Word) : BodyBound.Statement (.posTail args) := fun h _ hm =>
  fits_of_room (Nat.le_refl _) h hm

theorem BodyBound.ecControlFreeze (args : List Word) : BodyBound.Statement (.ecControlFreeze args) := fun h _ hm =>
  fits_of_room (Nat.le_of_eq (withMode_length _ _)) h hm

theorem BodyBound.ecControlThaw (args : List Word) : BodyBound.Statement (.ecControlThaw args) := fun h _ hm =>
  fits_of_room (Nat.le_of_eq (withMode_length _ _)) h hm

theorem BodyBound.ecControlReset (args : List Word) : BodyBound.Statement (.ecControlReset args) := fun h _ hm =>
  fits_of_room (Nat.le_of_eq (withMode_length _ _)) h hm

theorem BodyBound.ecReport (args : List Word) : BodyBound.Statement (.ecReport args) := fun h _ hm =>
  fits_of_room (Nat.le_refl _) h hm

theorem BodyBound.profileWrite (args : List Word) : BodyBound.Statement (.profileWrite args) := fun h _ hm =>
  fits_of_room (Nat.le_refl _) h hm

theorem BodyBound.profileRead (args : List Word) : BodyBound.Statement (.profileRead args) := fun h _ hm =>
  fits_of_room (Nat.le_refl _) h hm

theorem BodyBound.routePut (args : List Word) : BodyBound.Statement (.routePut args) := fun h _ hm =>
  fits_of_room (Nat.le_refl _) h hm

theorem BodyBound.routeDrop (args : List Word) : BodyBound.Statement (.routeDrop args) := fun h _ hm =>
  fits_of_room (Nat.le_refl _) h hm

theorem BodyBound.routeRevert (args : List Word) : BodyBound.Statement (.routeRevert args) := fun h _ hm =>
  fits_of_room (Nat.le_refl _) h hm

theorem BodyBound.routeCommit (args : List Word) : BodyBound.Statement (.routeCommit args) := fun h _ hm =>
  fits_of_room (Nat.le_refl _) h hm

theorem BodyBound.routeCommitApply : BodyBound.Statement .routeCommitApply := fun _ _ h => nomatch h

theorem BodyBound.routeList (args : List Word) : BodyBound.Statement (.routeList args) := fun h _ hm =>
  fits_of_room (Nat.le_refl _) h hm

theorem BodyBound.progSet (args : List Word) : BodyBound.Statement (.progSet args) := fun h _ hm =>
  fits_of_room (Nat.le_refl _) h hm

theorem BodyBound.fallbackSet (args : List Word) : BodyBound.Statement (.fallbackSet args) := fun h _ hm =>
  fits_of_room (Nat.le_refl _) h hm

theorem BodyBound.progQuery (args : List Word) : BodyBound.Statement (.progQuery args) := fun h _ hm =>
  fits_of_room (Nat.le_refl _) h hm

theorem BodyBound.clipBegin (args : List Word) : BodyBound.Statement (.clipBegin args) := fun h _ hm =>
  fits_of_room (Nat.le_refl _) h hm

theorem BodyBound.clipData (args : List Word) : BodyBound.Statement (.clipData args) := fun h _ hm =>
  fits_of_room (Nat.le_refl _) h hm

theorem BodyBound.clipCancel (args : List Word) : BodyBound.Statement (.clipCancel args) := fun h _ hm =>
  fits_of_room (Nat.le_refl _) h hm

theorem BodyBound.clipDelete (args : List Word) : BodyBound.Statement (.clipDelete args) := fun h _ hm =>
  fits_of_room (Nat.le_refl _) h hm

theorem BodyBound.clipQuery (args : List Word) : BodyBound.Statement (.clipQuery args) := fun h _ hm =>
  fits_of_room (Nat.le_refl _) h hm

theorem BodyBound.promptPlay (args : List Word) : BodyBound.Statement (.promptPlay args) := fun h _ hm =>
  fits_of_room (n := 1) (Nat.le_of_eq List.length_append) h hm

theorem BodyBound.promptPlayUrgent (args : List Word) : BodyBound.Statement (.promptPlayUrgent args) := fun h _ hm =>
  fits_of_room (n := 1) (Nat.le_of_eq List.length_append) h hm

theorem BodyBound.promptStopNow (args : List Word) : BodyBound.Statement (.promptStopNow args) := fun h _ hm =>
  fits_of_room (Nat.le_of_eq (withMode_length _ _)) h hm

theorem BodyBound.promptStopAfterPass (args : List Word) : BodyBound.Statement (.promptStopAfterPass args) := fun h _ hm =>
  fits_of_room (Nat.le_of_eq (withMode_length _ _)) h hm

theorem BodyBound.promptStopFlush (args : List Word) : BodyBound.Statement (.promptStopFlush args) := fun h _ hm =>
  fits_of_room (Nat.le_of_eq (withMode_length _ _)) h hm

theorem BodyBound.promptQuery (args : List Word) : BodyBound.Statement (.promptQuery args) := fun h _ hm =>
  fits_of_room (Nat.le_refl _) h hm

theorem BodyBound.shockSet (args : List Word) : BodyBound.Statement (.shockSet args) := fun h _ hm =>
  fits_of_room (Nat.le_refl _) h hm

theorem BodyBound.shockClear (args : List Word) : BodyBound.Statement (.shockClear args) := fun h _ hm =>
  fits_of_room (Nat.le_refl _) h hm

theorem BodyBound.shockQuery (args : List Word) : BodyBound.Statement (.shockQuery args) := fun h _ hm =>
  fits_of_room (Nat.le_refl _) h hm

theorem BodyBound.keymapSet (args : List Word) : BodyBound.Statement (.keymapSet args) := fun h _ hm =>
  fits_of_room (Nat.le_refl _) h hm

theorem BodyBound.linkArm (args : List Word) : BodyBound.Statement (.linkArm args) := fun h _ hm =>
  fits_of_room (Nat.le_refl _) h hm

theorem BodyBound.resume (args : List Word) : BodyBound.Statement (.resume args) := fun h _ hm =>
  fits_of_room (Nat.le_refl _) h hm

theorem BodyBound.devQuery (args : List Word) : BodyBound.Statement (.devQuery args) := fun h _ hm =>
  fits_of_room (Nat.le_refl _) h hm

theorem BodyBound.devReset (args : List Word) : BodyBound.Statement (.devReset args) := fun h _ hm =>
  fits_of_room (Nat.le_refl _) h hm

theorem BodyBound.devResetPerform : BodyBound.Statement .devResetPerform := fun _ _ h => nomatch h

theorem BodyBound.unknownKind (kind : Byte) (args : List Word) : BodyBound.Statement (.unknownKind kind args) := fun h _ hm =>
  fits_of_room (n := 0) (Nat.le_refl _) (Bool.and_eq_true_iff.mp h).1 hm

theorem BodyBound.pinReset : BodyBound.Statement .pinReset := fun _ _ h => nomatch h

theorem BodyBound.frame (inputs : FrameInputs) : BodyBound.Statement (.frame inputs) := fun _ _ h => nomatch h

theorem BodyBound.hangoverExpire (p : Position) (inputs : FrameInputs) : BodyBound.Statement (.hangoverExpire p inputs) := fun _ _ h => nomatch h

theorem BodyBound.promptPassComplete (p : Position) (inputs : FrameInputs) : BodyBound.Statement (.promptPassComplete p inputs) := fun _ _ h => nomatch h

theorem BodyBound.shockOn (p : Position) (inputs : FrameInputs) : BodyBound.Statement (.shockOn p inputs) := fun _ _ h => nomatch h

theorem BodyBound.shockOff (p : Position) (inputs : FrameInputs) : BodyBound.Statement (.shockOff p inputs) := fun _ _ h => nomatch h

theorem BodyBound.messageSent (inputs : FrameInputs) : BodyBound.Statement (.messageSent inputs) := fun _ _ h => nomatch h

theorem BodyBound.holdLeaveComplete (p : Position) (inputs : FrameInputs) : BodyBound.Statement (.holdLeaveComplete p inputs) := fun _ _ h => nomatch h

theorem BodyBound.positionTurn (p : Position) : BodyBound.Statement (.positionTurn p) := fun _ _ h => nomatch h

theorem BodyBound.openingExit (p : Position) : BodyBound.Statement (.openingExit p) := fun _ _ h => nomatch h

theorem BodyBound.closingEntry (p : Position) : BodyBound.Statement (.closingEntry p) := fun _ _ h => nomatch h

theorem BodyBound.teardown (p : Position) : BodyBound.Statement (.teardown p) := fun _ _ h => nomatch h

theorem BodyBound.tailChangeApply (p : Position) : BodyBound.Statement (.tailChangeApply p) := fun _ _ h => nomatch h

theorem BodyBound.ecConverged (p : Position) : BodyBound.Statement (.ecConverged p) := fun _ _ h => nomatch h

theorem BodyBound.ecDiverged (p : Position) : BodyBound.Statement (.ecDiverged p) := fun _ _ h => nomatch h

theorem BodyBound.shockHoldExpire (p : Position) : BodyBound.Statement (.shockHoldExpire p) := fun _ _ h => nomatch h

theorem BodyBound.cycleStart : BodyBound.Statement .cycleStart := fun _ _ h => nomatch h

theorem BodyBound.progSilent (k : ProgId) : BodyBound.Statement (.progSilent k) := fun _ _ h => nomatch h

theorem BodyBound.profilePendingApply : BodyBound.Statement .profilePendingApply := fun _ _ h => nomatch h

theorem BodyBound.tlinkMarker (word : Word) : BodyBound.Statement (.tlinkMarker word) := fun _ _ h => nomatch h

theorem BodyBound.tlinkLostExpire : BodyBound.Statement .tlinkLostExpire := fun _ _ h => nomatch h

theorem BodyBound.mgmtSymbol (tag data : Word) : BodyBound.Statement (.mgmtSymbol tag data) := fun _ _ h => nomatch h

theorem BodyBound.gapTimeout : BodyBound.Statement .gapTimeout := fun _ _ h => nomatch h

theorem BodyBound.mgmtBreak : BodyBound.Statement .mgmtBreak := fun _ _ h => nomatch h

theorem BodyBound.statusWordArrival (word : Word) : BodyBound.Statement (.statusWordArrival word) := fun _ _ h => nomatch h

theorem BodyBound.keyEdge (key : Key) (word : Word) : BodyBound.Statement (.keyEdge key word) := fun _ _ h => nomatch h

theorem BodyBound.presenceEdge (word : Word) : BodyBound.Statement (.presenceEdge word) := fun _ _ h => nomatch h

theorem BodyBound.hlinkQuietWindow (foreignDrive : Bool) : BodyBound.Statement (.hlinkQuietWindow foreignDrive) := fun _ _ h => nomatch h

theorem BodyBound.syncPatternFound (number : FrameNumber) : BodyBound.Statement (.syncPatternFound number) := fun _ _ h => nomatch h

theorem BodyBound.resetNAssert : BodyBound.Statement .resetNAssert := fun _ _ h => nomatch h

end Sys2Proof.Laws
end

