-- ==== Sys2Proof/Laws/Turn.lean ====
section
/-!
SUPPORT. What a turn does (R5): the position after it as one function of the position before it, and what
it leaves of the rest of the part.
-/

namespace Sys2Proof.Machine

/-! ## When a turn is made -/

theorem turnStep_ready {s : State} {p : Position} (h : s.turnReady p = true) {outcome : PosState → Bool}
    (ho : outcome (s.posn p) = true) : turnStep p outcome s = .next (s.turn p) := by
  simp only [State.turnReady, Bool.and_eq_true, Bool.or_eq_true, decide_eq_true_eq] at h
  have hp : s.profilesBeforeTurn = s := by
    rcases h.2 with hn | hd
    · simp [State.profilesBeforeTurn, hn]
    · simp [State.profilesBeforeTurn, hd]
  simp [turnStep, h.1, ho, State.takeTurn, hp]

theorem execPositionTurn_ready {s : State} {p : Position} (h : s.turnReady p = true) :
    execPositionTurn p s = .next (s.turn p) := turnStep_ready h rfl

/-! ## The parts of a turn, on the position alone -/

/-- The position after the ended cycle is judged. -/
def judgedPosn (p : Position) (x : PosState) : PosState :=
  let v := verdictAt p x
  { x with
    taps := { x.taps with elems := if v.zero then zeroTaps x.taps.elems else x.taps.elems }
    ec := v.ec.restartCycle }

/-- The position after the floor update and the hold counter. -/
def flooredPosn (q : Profile) (r : Record) (y : PosState) : PosState :=
  { y with ns := if floorTurns r then floorUpdate q y.ns else y.ns, shock := shockTurn y.shock }

/-- The position after its tail change. -/
def retailedPosn (y : PosState) : PosState :=
  match y.taps.change with
  | none => y
  | some .grow => retail y (y.taps.elems.map TapElem.attach)
  | some (.shrink n) => retail y (y.taps.elems.take n)

/-- The position after the controller's steps at a turn that tears nothing down. -/
def controlledPosn (q : Profile) (y : PosState) : PosState :=
  match y.record.stored with
  | .opening => if y.record.closeReq then { y with record := enterClosing y.record } else enterTalk q y
  | .active => if y.record.closeReq then { y with record := enterClosing y.record } else talkTurn y
  | .closing => { y with record := { y.record with keys := [] } }
  | .closed => { y with record := { y.record with keys := [] } }

/-- The position before the controller's steps. -/
def State.readiedPosn (s : State) (p : Position) : PosState :=
  retailedPosn (flooredPosn (s.frameProfile p) (s.posn p).record (judgedPosn p (s.posn p)))

/-- The position after a turn that tears nothing down. -/
def State.turnedPosn (s : State) (p : Position) : PosState :=
  captureTurn (s.posn p).ec
    (muteTurn (controlledPosn s.profiles[(s.posn p).record.params.nsProfile.val] (s.readiedPosn p)))

theorem retailedPosn_record (y : PosState) : (retailedPosn y).record = y.record := by
  unfold retailedPosn; split <;> rfl

theorem State.readiedPosn_record (s : State) (p : Position) :
    (s.readiedPosn p).record = (s.posn p).record := by
  rw [State.readiedPosn, retailedPosn_record]; rfl

/-! ## judge -/

@[simp] theorem State.judge_posn_self (s : State) (p : Position) :
    (s.judge p).posn p = judgedPosn p (s.posn p) := by
  simp [State.judge, judgedPosn]

@[simp] theorem State.judge_posn_ne (s : State) {p q : Position} (h : q ≠ p) :
    (s.judge p).posn q = s.posn q := by
  simp [State.judge, h]

@[simp] theorem State.judge_timer (s : State) (p : Position) : (s.judge p).timer = s.timer := by simp [State.judge]
@[simp] theorem State.judge_tlink (s : State) (p : Position) : (s.judge p).tlink = s.tlink := by simp [State.judge]
@[simp] theorem State.judge_hlink (s : State) (p : Position) : (s.judge p).hlink = s.hlink := by simp [State.judge]
@[simp] theorem State.judge_profiles (s : State) (p : Position) : (s.judge p).profiles = s.profiles := by simp [State.judge]
@[simp] theorem State.judge_pendingProfiles (s : State) (p : Position) : (s.judge p).pendingProfiles = s.pendingProfiles := by simp [State.judge]
@[simp] theorem State.judge_progs (s : State) (p : Position) : (s.judge p).progs = s.progs := by simp [State.judge]
@[simp] theorem State.judge_fallback (s : State) (p : Position) : (s.judge p).fallback = s.fallback := by simp [State.judge]
@[simp] theorem State.judge_debouncers (s : State) (p : Position) : (s.judge p).debouncers = s.debouncers := by simp [State.judge]
@[simp] theorem State.judge_keymap (s : State) (p : Position) : (s.judge p).keymap = s.keymap := by simp [State.judge]
@[simp] theorem State.judge_receiver (s : State) (p : Position) : (s.judge p).receiver = s.receiver := by simp [State.judge]
@[simp] theorem State.judge_inputQueue (s : State) (p : Position) : (s.judge p).inputQueue = s.inputQueue := by simp [State.judge]
@[simp] theorem State.judge_cmdUnit (s : State) (p : Position) : (s.judge p).cmdUnit = s.cmdUnit := by simp [State.judge]
@[simp] theorem State.judge_replies (s : State) (p : Position) : (s.judge p).replies = s.replies := by simp [State.judge]
@[simp] theorem State.judge_arbiter (s : State) (p : Position) : (s.judge p).arbiter = s.arbiter := by simp [State.judge]
@[simp] theorem State.judge_outputs (s : State) (p : Position) : (s.judge p).outputs = s.outputs := by simp [State.judge]
@[simp] theorem State.judge_latch (s : State) (p : Position) : (s.judge p).latch = s.latch := by simp [State.judge]
@[simp] theorem State.judge_resetLow (s : State) (p : Position) : (s.judge p).resetLow = s.resetLow := by simp [State.judge]
@[simp] theorem State.judge_cuts (s : State) (p : Position) : (s.judge p).cuts = s.cuts := by simp [State.judge]
@[simp] theorem State.judge_pending (s : State) (p : Position) : (s.judge p).pending = s.pending := by simp [State.judge]
@[simp] theorem State.judge_freeTaps (s : State) (p : Position) : (s.judge p).freeTaps = s.freeTaps := by simp [State.judge]
@[simp] theorem State.judge_routes (s : State) (p : Position) : (s.judge p).routes = s.routes := by simp [State.judge]
@[simp] theorem State.judge_store (s : State) (p : Position) : (s.judge p).store = s.store := by simp [State.judge]

theorem State.judge_events (s : State) (p : Position)
    (h : s.events.length + (verdictAt p (s.posn p)).events.length ≤ 64) :
    (s.judge p).events = s.events ++ (verdictAt p (s.posn p)).events := by
  rw [State.judge, State.raiseAll_events _ _ (by simpa using h)]
  simp

/-! ## applyTail -/

@[simp] theorem State.applyTail_posn_self (s : State) (p : Position) :
    (s.applyTail p).posn p = retailedPosn (s.posn p) := by
  rcases h : (s.posn p).taps.change with _ | _ | n <;>
    simp [State.applyTail, retailedPosn, h]

@[simp] theorem State.applyTail_posn_ne (s : State) {p q : Position} (hq : q ≠ p) :
    (s.applyTail p).posn q = s.posn q := by
  rcases h : (s.posn p).taps.change with _ | _ | n <;>
    simp [State.applyTail, h, hq]

/-- What a shrink returns to the free list (R31). -/
theorem State.applyTail_freeTaps (s : State) (p : Position) :
    (s.applyTail p).freeTaps = s.freeTaps ++
      (match (s.posn p).taps.change with
        | some (.shrink n) => ((s.posn p).taps.elems.drop n).map fun e => e.block.zeroed
        | _ => []) := by
  rcases h : (s.posn p).taps.change with _ | _ | n <;>
    simp [State.applyTail, h, State.returnBlocks]

@[simp] theorem State.applyTail_timer (s : State) (p : Position) : (s.applyTail p).timer = s.timer := by
  rcases h : (s.posn p).taps.change with _ | _ | n <;> simp [State.applyTail, h]
@[simp] theorem State.applyTail_tlink (s : State) (p : Position) : (s.applyTail p).tlink = s.tlink := by
  rcases h : (s.posn p).taps.change with _ | _ | n <;> simp [State.applyTail, h]
@[simp] theorem State.applyTail_hlink (s : State) (p : Position) : (s.applyTail p).hlink = s.hlink := by
  rcases h : (s.posn p).taps.change with _ | _ | n <;> simp [State.applyTail, h]
@[simp] theorem State.applyTail_profiles (s : State) (p : Position) : (s.applyTail p).profiles = s.profiles := by
  rcases h : (s.posn p).taps.change with _ | _ | n <;> simp [State.applyTail, h]
@[simp] theorem State.applyTail_pendingProfiles (s : State) (p : Position) : (s.applyTail p).pendingProfiles = s.pendingProfiles := by
  rcases h : (s.posn p).taps.change with _ | _ | n <;> simp [State.applyTail, h]
@[simp] theorem State.applyTail_progs (s : State) (p : Position) : (s.applyTail p).progs = s.progs := by
  rcases h : (s.posn p).taps.change with _ | _ | n <;> simp [State.applyTail, h]
@[simp] theorem State.applyTail_fallback (s : State) (p : Position) : (s.applyTail p).fallback = s.fallback := by
  rcases h : (s.posn p).taps.change with _ | _ | n <;> simp [State.applyTail, h]
@[simp] theorem State.applyTail_debouncers (s : State) (p : Position) : (s.applyTail p).debouncers = s.debouncers := by
  rcases h : (s.posn p).taps.change with _ | _ | n <;> simp [State.applyTail, h]
@[simp] theorem State.applyTail_keymap (s : State) (p : Position) : (s.applyTail p).keymap = s.keymap := by
  rcases h : (s.posn p).taps.change with _ | _ | n <;> simp [State.applyTail, h]
@[simp] theorem State.applyTail_receiver (s : State) (p : Position) : (s.applyTail p).receiver = s.receiver := by
  rcases h : (s.posn p).taps.change with _ | _ | n <;> simp [State.applyTail, h]
@[simp] theorem State.applyTail_inputQueue (s : State) (p : Position) : (s.applyTail p).inputQueue = s.inputQueue := by
  rcases h : (s.posn p).taps.change with _ | _ | n <;> simp [State.applyTail, h]
@[simp] theorem State.applyTail_cmdUnit (s : State) (p : Position) : (s.applyTail p).cmdUnit = s.cmdUnit := by
  rcases h : (s.posn p).taps.change with _ | _ | n <;> simp [State.applyTail, h]
@[simp] theorem State.applyTail_replies (s : State) (p : Position) : (s.applyTail p).replies = s.replies := by
  rcases h : (s.posn p).taps.change with _ | _ | n <;> simp [State.applyTail, h]
@[simp] theorem State.applyTail_arbiter (s : State) (p : Position) : (s.applyTail p).arbiter = s.arbiter := by
  rcases h : (s.posn p).taps.change with _ | _ | n <;> simp [State.applyTail, h]
@[simp] theorem State.applyTail_outputs (s : State) (p : Position) : (s.applyTail p).outputs = s.outputs := by
  rcases h : (s.posn p).taps.change with _ | _ | n <;> simp [State.applyTail, h]
@[simp] theorem State.applyTail_latch (s : State) (p : Position) : (s.applyTail p).latch = s.latch := by
  rcases h : (s.posn p).taps.change with _ | _ | n <;> simp [State.applyTail, h]
@[simp] theorem State.applyTail_resetLow (s : State) (p : Position) : (s.applyTail p).resetLow = s.resetLow := by
  rcases h : (s.posn p).taps.change with _ | _ | n <;> simp [State.applyTail, h]
@[simp] theorem State.applyTail_cuts (s : State) (p : Position) : (s.applyTail p).cuts = s.cuts := by
  rcases h : (s.posn p).taps.change with _ | _ | n <;> simp [State.applyTail, h]
@[simp] theorem State.applyTail_pending (s : State) (p : Position) : (s.applyTail p).pending = s.pending := by
  rcases h : (s.posn p).taps.change with _ | _ | n <;> simp [State.applyTail, h]
@[simp] theorem State.applyTail_routes (s : State) (p : Position) : (s.applyTail p).routes = s.routes := by
  rcases h : (s.posn p).taps.change with _ | _ | n <;> simp [State.applyTail, h]
@[simp] theorem State.applyTail_store (s : State) (p : Position) : (s.applyTail p).store = s.store := by
  rcases h : (s.posn p).taps.change with _ | _ | n <;> simp [State.applyTail, h]
@[simp] theorem State.applyTail_events (s : State) (p : Position) : (s.applyTail p).events = s.events := by
  rcases h : (s.posn p).taps.change with _ | _ | n <;> simp [State.applyTail, h]
@[simp] theorem State.applyTail_eventsLost (s : State) (p : Position) : (s.applyTail p).eventsLost = s.eventsLost := by
  rcases h : (s.posn p).taps.change with _ | _ | n <;> simp [State.applyTail, h]
@[simp] theorem State.applyTail_flags (s : State) (p : Position) : (s.applyTail p).flags = s.flags := by
  rcases h : (s.posn p).taps.change with _ | _ | n <;> simp [State.applyTail, h]

/-! ## control, without a teardown -/

theorem State.control_eq {s : State} {p : Position} (h : tearsDown (s.posn p).record = false) :
    s.control p = s.setPosn p (controlledPosn (s.turnProfile p) (s.posn p)) := by
  rcases hs : (s.posn p).record.stored with _ | _ | _ | _ <;>
    simp_all [State.control, controlledPosn, State.modRecord, State.modPosn, tearsDown] <;> split <;> rfl

/-! ## The whole turn, without a teardown -/

/-- The state before the controller's steps. -/
def State.readied (s : State) (p : Position) : State :=
  ((s.judge p).modPosn p fun y => flooredPosn (s.frameProfile p) (s.posn p).record y).applyTail p

theorem State.readied_posn_self (s : State) (p : Position) : (s.readied p).posn p = s.readiedPosn p := by
  simp [State.readied, State.readiedPosn]

theorem State.turn_eq (s : State) (p : Position) :
    s.turn p =
      { ((s.readied p).control p).modPosn p (fun y => captureTurn (s.posn p).ec (muteTurn y)) with
        flags := { ((s.readied p).control p).flags with turnDone := true } } := rfl

theorem State.turn_posn (s : State) (p q : Position) :
    (s.turn p).posn q =
      (((s.readied p).control p).modPosn p fun y => captureTurn (s.posn p).ec (muteTurn y)).posn q :=
  State.posn_congr (by rw [State.turn_eq]) q

theorem State.turn_posn_self {s : State} {p : Position} (h : tearsDown (s.posn p).record = false) :
    (s.turn p).posn p = s.turnedPosn p := by
  have hr : (s.readied p).posn p = s.readiedPosn p := s.readied_posn_self p
  have hd : tearsDown ((s.readied p).posn p).record = false := by
    rw [hr, s.readiedPosn_record]; exact h
  have hq : (s.readied p).turnProfile p = s.profiles[(s.posn p).record.params.nsProfile.val] := by
    simp only [State.turnProfile, hr, s.readiedPosn_record]
    simp [State.readied]
  rw [State.turn_posn, State.control_eq hd, hq, State.posn_modPosn_self, State.posn_setPosn_self, hr]
  rfl

theorem State.turn_posn_ne {s : State} {p q : Position} (h : tearsDown (s.posn p).record = false)
    (hq : q ≠ p) : (s.turn p).posn q = s.posn q := by
  have hd : tearsDown ((s.readied p).posn p).record = false := by
    rw [s.readied_posn_self, s.readiedPosn_record]; exact h
  rw [State.turn_posn, State.control_eq hd]
  simp [hq, State.readied]

theorem State.turn_timer {s : State} {p : Position} (h : tearsDown (s.posn p).record = false) :
    (s.turn p).timer = s.timer := by
  have hd : tearsDown ((s.readied p).posn p).record = false := by
    rw [s.readied_posn_self, s.readiedPosn_record]; exact h
  rw [State.turn_eq, State.control_eq hd]
  simp [State.readied]

theorem State.turn_tlink {s : State} {p : Position} (h : tearsDown (s.posn p).record = false) :
    (s.turn p).tlink = s.tlink := by
  have hd : tearsDown ((s.readied p).posn p).record = false := by
    rw [s.readied_posn_self, s.readiedPosn_record]; exact h
  rw [State.turn_eq, State.control_eq hd]
  simp [State.readied]

theorem State.turn_hlink {s : State} {p : Position} (h : tearsDown (s.posn p).record = false) :
    (s.turn p).hlink = s.hlink := by
  have hd : tearsDown ((s.readied p).posn p).record = false := by
    rw [s.readied_posn_self, s.readiedPosn_record]; exact h
  rw [State.turn_eq, State.control_eq hd]
  simp [State.readied]

theorem State.turn_profiles {s : State} {p : Position} (h : tearsDown (s.posn p).record = false) :
    (s.turn p).profiles = s.profiles := by
  have hd : tearsDown ((s.readied p).posn p).record = false := by
    rw [s.readied_posn_self, s.readiedPosn_record]; exact h
  rw [State.turn_eq, State.control_eq hd]
  simp [State.readied]

theorem State.turn_pendingProfiles {s : State} {p : Position} (h : tearsDown (s.posn p).record = false) :
    (s.turn p).pendingProfiles = s.pendingProfiles := by
  have hd : tearsDown ((s.readied p).posn p).record = false := by
    rw [s.readied_posn_self, s.readiedPosn_record]; exact h
  rw [State.turn_eq, State.control_eq hd]
  simp [State.readied]

theorem State.turn_progs {s : State} {p : Position} (h : tearsDown (s.posn p).record = false) :
    (s.turn p).progs = s.progs := by
  have hd : tearsDown ((s.readied p).posn p).record = false := by
    rw [s.readied_posn_self, s.readiedPosn_record]; exact h
  rw [State.turn_eq, State.control_eq hd]
  simp [State.readied]

theorem State.turn_fallback {s : State} {p : Position} (h : tearsDown (s.posn p).record = false) :
    (s.turn p).fallback = s.fallback := by
  have hd : tearsDown ((s.readied p).posn p).record = false := by
    rw [s.readied_posn_self, s.readiedPosn_record]; exact h
  rw [State.turn_eq, State.control_eq hd]
  simp [State.readied]

theorem State.turn_debouncers {s : State} {p : Position} (h : tearsDown (s.posn p).record = false) :
    (s.turn p).debouncers = s.debouncers := by
  have hd : tearsDown ((s.readied p).posn p).record = false := by
    rw [s.readied_posn_self, s.readiedPosn_record]; exact h
  rw [State.turn_eq, State.control_eq hd]
  simp [State.readied]

theorem State.turn_keymap {s : State} {p : Position} (h : tearsDown (s.posn p).record = false) :
    (s.turn p).keymap = s.keymap := by
  have hd : tearsDown ((s.readied p).posn p).record = false := by
    rw [s.readied_posn_self, s.readiedPosn_record]; exact h
  rw [State.turn_eq, State.control_eq hd]
  simp [State.readied]

theorem State.turn_receiver {s : State} {p : Position} (h : tearsDown (s.posn p).record = false) :
    (s.turn p).receiver = s.receiver := by
  have hd : tearsDown ((s.readied p).posn p).record = false := by
    rw [s.readied_posn_self, s.readiedPosn_record]; exact h
  rw [State.turn_eq, State.control_eq hd]
  simp [State.readied]

theorem State.turn_inputQueue {s : State} {p : Position} (h : tearsDown (s.posn p).record = false) :
    (s.turn p).inputQueue = s.inputQueue := by
  have hd : tearsDown ((s.readied p).posn p).record = false := by
    rw [s.readied_posn_self, s.readiedPosn_record]; exact h
  rw [State.turn_eq, State.control_eq hd]
  simp [State.readied]

theorem State.turn_cmdUnit {s : State} {p : Position} (h : tearsDown (s.posn p).record = false) :
    (s.turn p).cmdUnit = s.cmdUnit := by
  have hd : tearsDown ((s.readied p).posn p).record = false := by
    rw [s.readied_posn_self, s.readiedPosn_record]; exact h
  rw [State.turn_eq, State.control_eq hd]
  simp [State.readied]

theorem State.turn_replies {s : State} {p : Position} (h : tearsDown (s.posn p).record = false) :
    (s.turn p).replies = s.replies := by
  have hd : tearsDown ((s.readied p).posn p).record = false := by
    rw [s.readied_posn_self, s.readiedPosn_record]; exact h
  rw [State.turn_eq, State.control_eq hd]
  simp [State.readied]

theorem State.turn_arbiter {s : State} {p : Position} (h : tearsDown (s.posn p).record = false) :
    (s.turn p).arbiter = s.arbiter := by
  have hd : tearsDown ((s.readied p).posn p).record = false := by
    rw [s.readied_posn_self, s.readiedPosn_record]; exact h
  rw [State.turn_eq, State.control_eq hd]
  simp [State.readied]

theorem State.turn_outputs {s : State} {p : Position} (h : tearsDown (s.posn p).record = false) :
    (s.turn p).outputs = s.outputs := by
  have hd : tearsDown ((s.readied p).posn p).record = false := by
    rw [s.readied_posn_self, s.readiedPosn_record]; exact h
  rw [State.turn_eq, State.control_eq hd]
  simp [State.readied]

theorem State.turn_latch {s : State} {p : Position} (h : tearsDown (s.posn p).record = false) :
    (s.turn p).latch = s.latch := by
  have hd : tearsDown ((s.readied p).posn p).record = false := by
    rw [s.readied_posn_self, s.readiedPosn_record]; exact h
  rw [State.turn_eq, State.control_eq hd]
  simp [State.readied]

theorem State.turn_resetLow {s : State} {p : Position} (h : tearsDown (s.posn p).record = false) :
    (s.turn p).resetLow = s.resetLow := by
  have hd : tearsDown ((s.readied p).posn p).record = false := by
    rw [s.readied_posn_self, s.readiedPosn_record]; exact h
  rw [State.turn_eq, State.control_eq hd]
  simp [State.readied]

theorem State.turn_cuts {s : State} {p : Position} (h : tearsDown (s.posn p).record = false) :
    (s.turn p).cuts = s.cuts := by
  have hd : tearsDown ((s.readied p).posn p).record = false := by
    rw [s.readied_posn_self, s.readiedPosn_record]; exact h
  rw [State.turn_eq, State.control_eq hd]
  simp [State.readied]

theorem State.turn_pending {s : State} {p : Position} (h : tearsDown (s.posn p).record = false) :
    (s.turn p).pending = s.pending := by
  have hd : tearsDown ((s.readied p).posn p).record = false := by
    rw [s.readied_posn_self, s.readiedPosn_record]; exact h
  rw [State.turn_eq, State.control_eq hd]
  simp [State.readied]

theorem State.turn_routes {s : State} {p : Position} (h : tearsDown (s.posn p).record = false) :
    (s.turn p).routes = s.routes := by
  have hd : tearsDown ((s.readied p).posn p).record = false := by
    rw [s.readied_posn_self, s.readiedPosn_record]; exact h
  rw [State.turn_eq, State.control_eq hd]
  simp [State.readied]

theorem State.turn_store {s : State} {p : Position} (h : tearsDown (s.posn p).record = false) :
    (s.turn p).store = s.store := by
  have hd : tearsDown ((s.readied p).posn p).record = false := by
    rw [s.readied_posn_self, s.readiedPosn_record]; exact h
  rw [State.turn_eq, State.control_eq hd]
  simp [State.readied]

theorem State.turn_freeTaps {s : State} {p : Position} (h : tearsDown (s.posn p).record = false) :
    (s.turn p).freeTaps = (s.readied p).freeTaps := by
  have hd : tearsDown ((s.readied p).posn p).record = false := by
    rw [s.readied_posn_self, s.readiedPosn_record]; exact h
  rw [State.turn_eq, State.control_eq hd]
  simp

theorem State.turn_events {s : State} {p : Position} (h : tearsDown (s.posn p).record = false) :
    (s.turn p).events = (s.readied p).events := by
  have hd : tearsDown ((s.readied p).posn p).record = false := by
    rw [s.readied_posn_self, s.readiedPosn_record]; exact h
  rw [State.turn_eq, State.control_eq hd]
  simp

theorem State.turn_eventsLost {s : State} {p : Position} (h : tearsDown (s.posn p).record = false) :
    (s.turn p).eventsLost = (s.readied p).eventsLost := by
  have hd : tearsDown ((s.readied p).posn p).record = false := by
    rw [s.readied_posn_self, s.readiedPosn_record]; exact h
  rw [State.turn_eq, State.control_eq hd]
  simp

theorem State.turn_turnDone (s : State) (p : Position) : (s.turn p).flags.turnDone = true := rfl

/-- A turn that tears nothing down leaves the parts that all positions share. -/
theorem State.turn_sameShared {s : State} {p : Position} (h : tearsDown (s.posn p).record = false) :
    s.sameShared (s.turn p) := by
  simp [State.sameShared, State.turn_profiles h, State.turn_pendingProfiles h, State.turn_routes h,
    State.turn_progs h, State.turn_fallback h, State.turn_store h, State.turn_debouncers h,
    State.turn_keymap h, State.turn_timer h, State.turn_tlink h, State.turn_hlink h,
    State.turn_receiver h, State.turn_inputQueue h, State.turn_cmdUnit h, State.turn_replies h,
    State.turn_arbiter h, State.turn_outputs h, State.turn_latch h, State.turn_resetLow h,
    State.turn_pending h]

theorem State.turn_sameOthers {s : State} {p : Position} (h : tearsDown (s.posn p).record = false) :
    s.sameOthers (s.turn p) p := fun _ hq => State.turn_posn_ne h hq

end Sys2Proof.Machine
end

