-- ==== Sys2Proof/Tests/Slice0.lean ====
section
/-!
SUPPORT. The model's own tests: the well-formedness smoke test, small tests whose expected values are
the manual's own figures, and for every statement with hypotheses a state and operands that meet them.
-/

namespace Sys2Proof.Tests

open Sys2Proof Sys2Proof.Machine

/-! ## Small states -/

/-- The part after reset with its trunk UP. -/
def up : State :=
  { State.reset with
    timer := { number := 1, aligned := true }
    tlink := { state := .up, good := 0, bad := 0, lastGood := 0 } }

/-- The frame 0 of a part whose trunk is UP. -/
def zero : State := { up with timer := { number := 0, aligned := true } }

/-- A position in TALK on slots 3 and 5, at full output gate. -/
def talk : PosState :=
  { PosState.reset with
    record := { Record.reset with
      stored := .active, hSlot := some 3, tSlot := some 5, wo := 32, outTarget := true } }

/-- A state after a frame's turn: nothing is left to do before the computation. -/
def set (s : State) : State := { s with flags := { s.flags with turnDone := true } }

/-- The part with one position in TALK. -/
def one : State := up.setPosn 1 talk

/-- A READY clip of one word at address 0. -/
def readyClip : Clip := { state := .ready, start := 0, length := 1, fill := 1, uses := 0 }

/-- The part with one position in TALK and clip 2 with a given record. -/
def withStore (c : Clip) : State := { one with store := one.store.setClip 2 c }

/-- A prompt entry on clip 2. -/
def entry : PromptEntry := { clip := 2, repeats := 1, gain := 4096, duck := 2048, notify := true }

/-- A player in the middle of its head's last pass. -/
def playing (l : List PromptEntry) : Player :=
  { Player.reset with state := .playing, queue := l, remaining := 1, duckLevel := 2048 }

/-- The samples of a quiet frame. -/
def quiet : FrameInputs :=
  { returns := Vector.replicate 32 0, progs := Vector.replicate 4 0, mics := Vector.replicate 32 0
    order :=
      { closes := true, indicator := .frameStart, messageLast := false, playersBeforeTurn := false, picks := []
        choice := .last } }

/-! ## Well-formedness: each check refuses an ill-formed term -/

theorem test_wf_body_of_16 : (Instr.clipData (List.replicate 16 0)).wellFormed = true := by decide

theorem test_wf_body_of_17 : (Instr.clipData (List.replicate 17 0)).wellFormed = false := by decide

theorem test_wf_mode_row_of_16 : (Instr.promptStopNow (List.replicate 16 0)).wellFormed = false := by decide

theorem test_wf_known_kind : (Instr.unknownKind 0x08 []).wellFormed = false := by decide

theorem test_wf_unknown_kind_of_17 : (Instr.unknownKind 0x7F (List.replicate 17 0)).wellFormed = false := by
  decide

theorem test_wf_unknown_kind : (Instr.unknownKind 0x7F [1]).wellFormed = true := by decide

/-! ## The table gives no bits -/

theorem test_no_word_decodes : decodeTableWord 16 0x1E01 = none := rfl

theorem test_no_word_is_fetched : up.withFetchWord 16 0x1E01 = up := rfl

/-! ## The manual's worked figures -/

/-- R1: halves are rounded away from zero (the second frame of section 4.3's figures). -/
theorem test_rounding_of_halves : roundDiv 460800 4096 = 113 ∧ roundDiv (-460800) 4096 = -113 := by decide

/-- Residual saturation (section 3.3's figures): d = 31000 over y = −4000, then the other way. -/
theorem test_residual_saturates : satSample (31000 - -4000) = 32767 ∧ satSample (-30000 - 5000) = -32768 := by
  decide

/-- One adaptation frame (section 3.5's figures): y, e, the step factor and three taps. -/
theorem test_adaptation_figures :
    estimate [0, 16384, 0] [8000, 0xF060, 2000] = -2000 ∧
    residualOf true .converging [0, 16384, 0] [8000, 0xF060, 2000] (-1500) = 500 ∧
    stepFactor { Params.default with stepM := 128, regR := 1 } 500 84000000 = 3193 ∧
    adaptCoefs 3193 [0, 16384, 0] [8000, 0xF060, 2000] = [780, 15994, 195] := by decide

/-- The double-talk test of sections 3.4 and 3.5: −1500 is no double talk, −9000 is. -/
theorem test_double_talk : doubleTalk 2048 8000 (-1500) = false ∧ doubleTalk 2048 8000 (-9000) = true := by
  decide

/-- The bands of section 3.7's figures. -/
theorem test_erle_bands :
    erleBand 40000000 150000 = 8 ∧ erleBand 8000000 2000000 = 2 ∧ erleBand 5000000 0 = 15 ∧
    erleBand 0 0 = 0 ∧ erleBand 1500000 3200000 = 0 := by decide

/-- The profile of section 4.3's figures. -/
def figureProfile : Profile :=
  { Profile.reset with upStep := 128, curve := #v[4096, 4096, 4096, 3072, 4096, 4096, 4096, 4096] }

/-- Two frames of the suppressor (section 4.3's figures). -/
theorem test_suppressor_figures :
    let n1 := suppressorStep figureProfile { env := 1000, floor := 100, cycMin := 32767, gain := 2048 } (-1800)
    let n2 := suppressorStep figureProfile n1 200
    n1.env = 1200 ∧ n1.gain = 2176 ∧ suppressedSample figureProfile n1 (-1800) = -956 ∧
    n2.env = 1185 ∧ n2.gain = 2304 ∧ suppressedSample figureProfile n2 200 = 113 := by decide

/-- Floor tracking (section 4.4's figures), with rise shift 2. -/
theorem test_floor_tracking :
    let f : Nat → Nat → Nat := fun floor m =>
      (floorUpdate { Profile.reset with rise := 2 } { env := 0, floor := floor, cycMin := m, gain := 0 }).floor
    f 64 300 = 80 ∧ f 125 290 = 156 ∧ f 195 180 = 180 ∧ f 180 0 = 1 ∧ f 1 40 = 2 := by decide

/-- The crossfade (section 6.2's figures): h = 8, talk 1000, hold input 2000. -/
theorem test_crossfade : sendPre 1000 2000 8 4096 = 1250 ∧ sendSample 1250 32 = 1250 := by decide

/-- The duck of section 5.6's ear mix: level 1024 at duck weight 16. -/
theorem test_duck_figures : duckGain 1024 16 = 2560 ∧ residualWeight 1024 16 0 = 2560 := by decide

/-- A shock at high volume (section 8.4's figures): the volume scaling and the limiter. -/
theorem test_shock_figures :
    gatedEar 6000 15 32 = 18974 ∧ gatedEar 12000 15 32 = 32767 ∧
    (earFrame { Shock.reset with overCount := 3 } 18974).ear = 4744 ∧
    (earFrame { Shock.reset with overCount := 3 } 18974).cameOn = true ∧
    (earFrame { Shock.reset with overCount := 1 } 32767).ear = 28672 := by decide

/-- Key actions saturate in list order (the example of section 1.4). -/
theorem test_key_actions_in_order :
    (applyKeyActions { Record.reset with volume := 15, keys := [.volumeDown, .volumeUp] }).volume = 15 ∧
    (applyKeyActions { Record.reset with volume := 15, keys := [.volumeUp, .volumeDown] }).volume = 14 := by
  decide

/-- Extents (section 7.3's sequence): step 5's release, step 7's first fit, step 10's merge. -/
theorem test_extents :
    releaseExtent { start := 100000, length := 200000 } [{ start := 450000, length := 74288 }] =
      [{ start := 100000, length := 200000 }, { start := 450000, length := 74288 }] ∧
    allocate 250000 [{ start := 100000, length := 200000 }, { start := 450000, length := 74288 }] = none ∧
    allocate 80000 [{ start := 100000, length := 200000 }, { start := 450000, length := 74288 }] =
      some (100000, [{ start := 180000, length := 120000 }, { start := 450000, length := 74288 }]) ∧
    releaseExtent { start := 300000, length := 150000 }
        [{ start := 100000, length := 200000 }, { start := 450000, length := 74288 }] =
      [{ start := 100000, length := 424288 }] := by decide

/-- Section 12.1: a marker reads 0xE960 to 0xE97F. -/
theorem test_marker_words : markerWord 0 = 0xE960 ∧ markerWord 31 = 0xE97F ∧ hasSync 0xE960 = true ∧
    hasSync 0xE95F = false ∧ markerNumber 0xE965 = 5 := by decide

/-- Section 12.2: the symbols of POS_CLOSE 5, its check the sum of 0x0301 and 5. -/
theorem test_symbols_of_a_message :
    symbolsOf { kind := 0x03, body := [5] } = [(0x1E01, 0x0301), (0x1E02, 5), (0x1E03, 0x0306)] := by decide

/-- Section 12.5: the shock record of a position after reset. -/
theorem test_shock_query_words :
    shockQueryWords Shock.reset 10 = [16384, 0x0400, 1024, 0x7D0A, 16, 28672, 0, 4096, 0] := by decide

/-! ## Steps -/

/-- An idle part stays as it is. -/
theorem test_idle_step : step State.reset = .next State.reset := rfl

/-- POS_CLOSE of a CLOSED position is refused with REFUSED_STATE (R16), first in the queue. -/
theorem test_pos_close_closed :
    (match step { up with pending := [.posClose [4]] } with
      | .next t => decide (t.replies = [{ kind := 0x03, code := .refusedState, results := [] }])
      | _ => false) = true := by decide

/-- POS_HOLD 1, on: the wish is stored and the reply is DONE (R17). -/
theorem test_pos_hold :
    (match exec (.posHold [1, 1]) one with
      | .next t => (t.posn 1).record.holdWish &&
          decide (t.replies = [{ kind := 0x04, code := .done, results := [] }])
      | _ => false) = true := by decide

/-- A marker that is not good is counted in UP (R150). -/
theorem test_bad_marker :
    (match exec (.tlinkMarker 0) up with
      | .next t => decide (t.tlink.bad = 1)
      | _ => false) = true := by decide

/-- The MUTE key of slot 1 goes down in the second of two arrivals, V = 2 for code 2 (R138, R139). -/
theorem test_debounced_press :
    let d : SlotDebouncers := { SlotDebouncers.reset with mute := { level := false, count := 1 } }
    let s := { one with debouncers := one.debouncers.set 1 d }
    (match exec (.statusWordArrival 0x8008) s with
      | .next t => (t.debouncers[1]).mute.level
      | _ => false) = true := by decide

/-! ## Witnesses: states and operands that meet the hypotheses of the statements

One theorem for each statement with hypotheses, named after it, with each clause's own hypotheses. -/

theorem wit_StepRunsFrontCommand :
    ({ up with pending := [.cycleStart] } : State).pending = .cycleStart :: [] := rfl

theorem wit_ResetLowFreezesThePart :
    ({ up with resetLow := true } : State).resetLow = true ∧ Instr.cycleStart ≠ .pinReset ∧
    Instr.cycleStart ≠ .resetNAssert := by decide

theorem wit_ResetsPutEveryBlockAtReset :
    up.accepts = true ∧
    (let s : State := { up with cmdUnit := .heldReset }
     s.cmdUnit = .heldReset ∧ s.replies = []) ∧
    (let s : State := { up with cmdUnit := .heldResetDue }
     s.resetLow = false ∧ s.cmdUnit = .heldResetDue) := by decide

theorem wit_RefusedCommandsChangeNothing :
    (∃ f, commandOf 0x03 = some f ∧ (f [4] up).reply = some (.refusedState, []) ∧
      ReplyCode.refusedState.refuses = true) ∧
    (∃ f, commandOf 0x01 = some f ∧ (f [0, 3, 0x00FF] one).reply = some (.refusedBusy, [1]) ∧
      ReplyCode.refusedBusy.refuses = true) ∧
    (∃ f, commandOf 0x30 = some f ∧
      (f [2, 0, 1] { up with store := { up.store with free := [] } }).reply =
        some (.refusedRoom, [0, 0, 8, 0]) ∧ ReplyCode.refusedRoom.refuses = true) :=
  ⟨⟨cmdPosClose, rfl, by decide, rfl⟩, ⟨cmdPosMap, rfl, by decide, rfl⟩, ⟨cmdClipBegin, rfl, by decide, rfl⟩⟩

theorem wit_KindLengthAndNumbersAreCheckedFirst :
    (bodyLength 0x11 = some (([] : List Word).length + 1) ∧
      (0x11 : Byte) ∈ ([0x01, 0x02, 0x03, 0x04, 0x05, 0x06, 0x07, 0x08, 0x09, 0x10, 0x11] : List Byte) ∧
      32 ≤ (32 : Word).toNat) ∧
    (bodyLength 0x40 = some ((List.replicate 7 (0 : Word)).length + 1) ∧
      (0x40 : Byte) ∈ ([0x38, 0x39, 0x3A, 0x40, 0x41, 0x42] : List Byte)) ∧
    (bodyLength 0x34 = some (([] : List Word).length + 1) ∧
      (0x34 : Byte) ∈ ([0x30, 0x32, 0x33, 0x34] : List Byte) ∧ 64 ≤ (64 : Word).toNat) ∧
    up.accepts = true ∧ (0x7F : Byte) ∉ commandKinds ∧ (0x80 : Byte) ∉ commandKinds ∧
    bodyLength 0x53 = some 0 ∧ [(1 : Word)].length ≠ 0 ∧ bodyLength 0x18 = some 16 ∧
    ([] : List Word).length ≠ 16 ∧
    ([] : List Word).length < 2 ∧ [(2 : Word)].length < 2 ∧ 16 < (List.replicate 17 (2 : Word)).length := by
  decide

/-- A message for the input queue. -/
def msg : Message := { kind := 0x51, body := [] }

theorem wit_ManagementListsAreFilled :
    (up.inputQueue.length ≤ Config.inputLimit ∧ up.receiver.overrun = false ∧ up.inputQueue.length < 4) ∧
    (let s : State := { up with inputQueue := [msg, msg, msg, msg] }
     s.inputQueue.length ≤ Config.inputLimit ∧ s.receiver.overrun = false ∧ s.inputQueue.length = 4) ∧
    (let s : State := { up with receiver := { up.receiver with overrun := true }, inputQueue := [msg, msg, msg] }
     s.inputQueue.length ≤ Config.inputLimit ∧ s.receiver.overrun = true ∧ s.inputQueue.length < 4 ∧
       msg.kind = 0x51) ∧
    (let s : State := { up with receiver := { up.receiver with overrun := true } }
     s.inputQueue.length ≤ Config.inputLimit ∧ s.receiver.overrun = true ∧
       ({ kind := 0x03, body := [4] } : Message).kind ≠ 0x51) ∧
    (messageOf (.resume []) = some msg ∧ up.resetLow = false ∧ up.inputQueue = [] ∧
      ({ up with inputQueue := [msg] } : State).inputQueue ≠ [] ∧
      ({ up with cmdUnit := .heldCommit } : State).cmdUnit ≠ .ready ∧
      ({ up with flags := { up.flags with taken := some 0x51 } } : State).flags.taken ≠ none) ∧
    (let s : State := { up with inputQueue := [msg] }
     s.inputQueue = msg :: [] ∧ s.cmdUnit = .ready ∧ s.replies.length < 2 ∧ s.flags.taken = none) ∧
    up.events.length < 64 ∧
    64 ≤ ({ up with events := List.replicate 64 .mgmtReady } : State).events.length ∧
    up.tlink.state = .up ∧ State.reset.tlink.state ≠ .up := by decide

theorem wit_ManagementListsAreFilled_full :
    let r : Reply := { kind := 0x03, code := .done, results := [] }
    let s : State := { up with inputQueue := [msg], replies := [r, r] }
    s.inputQueue = msg :: [] ∧ 2 ≤ s.replies.length := by decide

/-- A message that comes while another waits stays behind it (R162). -/
theorem test_a_message_waits :
    (match exec (.posClose [4]) { up with inputQueue := [msg] } with
      | .next t => decide (t.inputQueue = [msg, { kind := 0x03, body := [4] }]) && decide (t.replies = [])
      | _ => false) = true := by decide

theorem wit_PosMapWritesBothSlots :
    (up.accepts = true ∧ posOf 0 = some 0 ∧ slotOf 31 = some (some 31) ∧ slotOf 0x00FF = some none ∧
      (up.posn 0).record.stored = .closed ∧
      ∀ q : Position, q ≠ 0 → (up.posn q).record.hSlot ≠ some 31) ∧
    (one.accepts = true ∧ (one.posn 0).record.stored = .closed ∧ (1 : Position) ≠ 0 ∧
      (one.posn 1).record.hSlot = some 3) ∧
    ((∀ j : Position, j ≠ 0 → (one.posn j).record.hSlot ≠ some 31) ∧ (one.posn 1).record.tSlot = some 5) ∧
    (one.posn 1).record.stored ≠ .closed := by decide

theorem wit_PosMapWritesBothSlots_law : up.slotLaw ∧ one.slotLaw := by
  have h : ∀ p : Position, p ≠ 1 → one.posn p = PosState.reset := fun p hp => by
    rw [show one.posn p = (up.setPosn 1 talk).posn p from rfl, State.posn_setPosn_ne _ _ hp]
    simp [State.posn, up, State.reset]
  refine ⟨fun p q _ => ?_, fun p q hpq => ?_⟩
  · simp [State.posn, up, State.reset, PosState.reset, Record.reset]
  · by_cases hp : p = 1
    · subst hp
      rw [h q hpq.symm]
      decide
    · simp [h p hp, PosState.reset, Record.reset]

/-- A slot that another position holds is refused with its number (R14). -/
theorem test_pos_map_clash :
    (match exec (.posMap [0, 4, 5]) one with
      | .next t => decide (t.replies = [{ kind := 0x01, code := .refusedBusy, results := [1] }])
      | _ => false) = true := by decide

/-- The part with a CLOSED position that has both its slots. -/
def mapped : State := up.setPosn 0 { talk with record := { talk.record with stored := .closed } }

theorem wit_PosOpenGrantsBlocks :
    mapped.accepts = true ∧ posOf 0 = some 0 ∧ (mapped.posn 0).record.stored = .closed ∧
    (mapped.posn 0).record.hSlot ≠ none ∧ (mapped.posn 0).record.tSlot ≠ none ∧
    (up.posn 31).record.hSlot = none := by decide

/-- POS_OPEN leaves nothing of the call before in the frame in progress (R62): the ratio 0, step 1,
regularisation 9 and hangover 7 of the last call are the defaults 2048, 64, 256 and 480. -/
theorem test_pos_open_defaults_in_frame :
    (let old : Params := { Params.default with stepM := 1, regR := 9, dtRatio := 0, hangoverFrames := 7 }
     match exec (.posOpen [0, 4]) (mapped.modPosn 0 fun x => { x with inForce := { x.inForce with params := old } }) with
      | .next t =>
        let q := (t.posn 0).inForce.params
        decide (q.stepM = 64 ∧ q.regR = 256 ∧ q.dtRatio = 2048 ∧ q.hangoverFrames = 480)
      | _ => false) = true := by decide

theorem wit_PosCloseSetsTheRequest : one.accepts = true ∧ posOf 1 = some 1 ∧ posOf 31 = some 31 := by decide

theorem wit_PosHoldAndPosMuteWriteTheRecord :
    one.accepts = true ∧ posOf 1 = some 1 ∧ onOffOf 1 = some true ∧ onOffOf 0 = some false := by decide

theorem wit_PosVolumeChangesTheIndex : one.accepts = true ∧ posOf 1 = some 1 := by decide

theorem wit_PosSetStoresTheParameter :
    one.accepts = true ∧ posOf 1 = some 1 ∧ (one.posn 1).record.stored ≠ .closed ∧
    (∀ e ∈ numericParams, (BitVec.ofNat 16 e.ident).toNat = e.ident) ∧
    ((3 : Word).toNat = 3 ∧ (0 : Word).toNat = (0 : ProfileId).val) ∧
    ((9 : Word).toNat = 9 ∧ captureOf 1 = some .single) ∧
    ((9 : Word).toNat < 10 ∧ (up.posn 1).record.stored = .closed ∧ paramInRange 9 1 = true) ∧
    paramInRange 10 0 = false ∧ paramInRange 9 2 = false := by decide

theorem wit_PosSetMovesTheHoldSource :
    one.accepts = true ∧ posOf 1 = some 1 ∧ (one.posn 1).record.stored ≠ .closed ∧ (1 : Word).toNat = 1 ∧
    (holdSourceOf 0 = some (.prog 0) ∧ HoldSource.prog 0 = (one.posn 1).record.params.holdSource) ∧
    (holdSourceOf 3 = some (.prog 3) ∧ HoldSource.prog 3 ≠ (one.posn 1).record.params.holdSource) ∧
    (holdSourceOf 0x0102 = some (.clip 2) ∧
      HoldSource.clip 2 ≠ ((withStore readyClip).posn 1).record.params.holdSource ∧
      ((withStore readyClip).store.clip 2).state = .ready) := by decide

/-- A tap element on block i. -/
def elem (i : BlockIndex) (on : Bool) : TapElem := { block := { index := i, coefs := [] }, attached := on }

/-- The part with a position in TALK that has a block list. -/
def tailed (l : List TapElem) (c : Option TailChange) : State :=
  up.setPosn 1 { talk with taps := { elems := l, change := c } }

theorem wit_PosTailAsksForAChange :
    posOf 1 = some 1 ∧
    (let s : State := { tailed [elem 0 true, elem 1 true] none with freeTaps := [{ index := 2, coefs := [] }] }
     s.accepts = true ∧ (s.posn 1).record.stored = .active ∧ (s.posn 1).taps.change = none ∧
       min 16 (2 : Word).toNat = (s.posn 1).taps.elems.length ∧
       (s.posn 1).taps.elems.length < min 16 (3 : Word).toNat ∧ 0 < s.freeTaps.length ∧
       min 16 (1 : Word).toNat < (s.posn 1).taps.elems.length ∧
       ({ s with freeTaps := [] } : State).freeTaps.length = 0) ∧
    ((tailed [] (some .grow)).posn 1).taps.change ≠ none ∧ (up.posn 1).record.stored = .closed := by decide

theorem wit_QueriesChangeNothing :
    up.accepts = true ∧ posOf 31 = some 31 ∧ profileOf 3 = some 3 ∧ (63 : Word).toNat ≤ 63 ∧
    clipOf 63 = some 63 ∧
    up.pendingProfiles[3] = none ∧
    (let s : State := { up with pendingProfiles := up.pendingProfiles.set 3 (some .reset) }
     s.accepts = true ∧ s.pendingProfiles[3] = some .reset) := by decide

theorem wit_ShockQueryReturnsTheRecord : up.accepts = true := by decide

theorem wit_ProgQueryReturnsTheMonitor : up.accepts = true := by decide

theorem wit_ReportsClearWhatTheyReport : up.accepts = true ∧ posOf 31 = some 31 := by decide

theorem wit_EcControlActsOnTheCanceller :
    one.accepts = true ∧ posOf 1 = some 1 ∧ (one.posn 1).record.stored ≠ .closed ∧
    (one.posn 31).record.stored = .closed := by decide

theorem wit_ProfilesAreStagedAndApplied :
    (up.accepts = true ∧ profileOf 0 = some 0 ∧ onOffOf 1 = some true) ∧
    (State.reset.resetLow = false ∧ State.reset.profilesDue = true) ∧
    (zero.accepts = true ∧ zero.profilesDue = true ∧ zero.flags.copiesApplied = Vector.replicate 4 false ∧
      (List.replicate 16 (0 : Word)).length = 16 ∧ profileOf ((List.replicate 16 0).getD 0 0) = some 0 ∧
      onOffOf ((List.replicate 16 0).getD 15 0) = some false) := by decide

/-- The reply is the same whether the write or the cycle start is first, with an earlier pending copy (R74). -/
theorem test_profile_write_at_the_cycle_start :
    (let s : State := { zero with pendingProfiles := zero.pendingProfiles.set 0 (some .reset) }
     let body : List Word := List.replicate 16 0
     (match runAll [.profileWrite body, .profilePendingApply] s,
        runAll [.profilePendingApply, .profileWrite body] s with
      | .next t, .next u => decide (t.replies = u.replies) && (u.pendingProfiles[0]).isSome
      | _, _ => false)) = true := by decide

/-- A value outside its range is clamped and answered with DONE_CLAMPED (R72). -/
theorem test_profile_write_clamps :
    (match exec (.profileWrite [0, 8, 15, 15, 0, 1, 1, 0, 0, 0, 0, 0, 0, 0, 4097, 0]) up with
      | .next t => decide ((t.pendingProfiles[0]).map (fun q => (q.attack, q.initialFloor, q.curve[7])) =
          some (7, 1, 4096)) &&
          decide (t.replies.map (fun r => r.code) = [.doneClamped])
      | _ => false) = true := by decide

/-- The part with two positions in TALK. -/
def two : State := one.setPosn 0 { talk with record := { talk.record with hSlot := some 4, tSlot := some 4 } }

/-- UPLINK(0) into EAR(1). -/
def pair01 : RoutePair := { srcKind := .uplink, src := 0, dstKind := .ear, dst := 1 }

/-- The part with two positions in TALK and one route in the shadow table. -/
def routed : State := { two with routes := { two.routes with shadow := [{ pair := pair01, gain := 4096 }] } }

theorem wit_RoutePutEditsTheShadowTable :
    two.accepts = true ∧ pairOf 0 0 0 1 = some pair01 ∧ (two.posn 0).record.stored ≠ .closed ∧
    (two.posn 1).record.stored ≠ .closed ∧ forbiddenPair pair01 = false ∧
    (routeIndex two.routes.shadow pair01 = none ∧ two.routes.shadow.length < 64 ∧
      routesInto two.routes.shadow .ear 1 < 4) ∧
    (routed.accepts = true ∧ routeIndex routed.routes.shadow pair01 = some 0) ∧
    (let t : List Route := List.replicate 4 { pair := { pair01 with srcKind := .residual }, gain := 0 }
     routeIndex t pair01 = none ∧ 4 ≤ routesInto t .ear 1) ∧
    (pairOf 0 1 0 1 = some { pair01 with src := 1 } ∧ forbiddenPair { pair01 with src := 1 } = true) ∧
    (one.posn 0).record.stored = .closed := by decide

theorem wit_RouteDropAndRevertEditTheShadowTable :
    routed.accepts = true ∧ two.accepts = true ∧ pairOf 0 0 0 1 = some pair01 ∧
    routeIndex routed.routes.shadow pair01 = some 0 ∧ routeIndex two.routes.shadow pair01 = none := by decide

theorem wit_RouteCommitIsAppliedAtTheCycleStart :
    up.accepts = true ∧
    (let s : State := { State.reset with routes := { State.reset.routes with commitPending := true } }
     s.resetLow = false ∧ s.commitDue = true ∧ s.routes.commitPending = true) := by decide

theorem wit_ProgSetStoresTheSettings : up.accepts = true ∧ progOf 3 = some 3 := by decide

theorem wit_FallbackSetMovesTheUse :
    (up.accepts = true ∧ clipOrNoneOf 0x00FF = some none ∧ none = up.fallback) ∧
    (let s : State := { withStore readyClip with fallback := some 2 }
     s.accepts = true ∧ (none : Option ClipId) ≠ s.fallback) ∧
    (clipOrNoneOf 2 = some (some 2) ∧ some 2 ≠ up.fallback ∧
      ((withStore readyClip).store.clip 2).state = .ready ∧ (up.store.clip 2).state ≠ .ready) := by decide

theorem wit_CycleStartEvaluatesTheProgrammes :
    State.reset.resetLow = false ∧ State.reset.monitorDue = true ∧
    (let g : Programme := { Programme.reset with sounding := true, silenceCycles := 1 }
     let s : State := { State.reset with progs := State.reset.progs.set 3 g }
     s.monitorDue = true ∧ (s.progs[3]).sounding = true ∧ (s.progs[3]).loud = false ∧
       (s.progs[3]).silenceCycles ≤ min 255 ((s.progs[3]).silentCount + 1)) := by decide

theorem wit_ClipBeginAllocatesFirstFit :
    up.accepts = true ∧ clipOf 63 = some 63 ∧ (up.store.clip 63).state = .empty ∧
    (∀ d : ClipId, (up.store.clip d).state ≠ .loading) ∧ 1 ≤ ofTwoWords 8 0 ∧ ofTwoWords 8 0 ≤ 524288 ∧
    (up.store.free = [] ++ { start := 0, length := 524288 } :: [] ∧ ofTwoWords 8 0 ≤ 524288) ∧
    (∀ y ∈ ({ up.store with free := [] } : ClipStore).free, y.length < ofTwoWords 8 0) ∧
    ofTwoWords 0 0 = 0 ∧ 524288 < ofTwoWords 8 1 ∧ ((withStore readyClip).store.clip 2).state ≠ .empty := by decide

/-- A LOADING clip of two words at the end of the memory, one word held. -/
def loadingClip : Clip := { state := .loading, start := 524286, length := 2, fill := 1, uses := 0 }

theorem wit_ClipDataWritesTheClip :
    (withStore loadingClip).accepts = true ∧ clipOf 2 = some 2 ∧
    ((withStore loadingClip).store.clip 2).state = .loading ∧
    1 ≤ [(7 : Word)].length ∧ [(7 : Word)].length ≤ 15 ∧
    ((withStore loadingClip).store.clip 2).fill + [(7 : Word)].length ≤
      ((withStore loadingClip).store.clip 2).length ∧
    ((withStore loadingClip).store.clip 2).start + ((withStore loadingClip).store.clip 2).length ≤ 524288 ∧
    Memory.wf (withStore loadingClip).store.mem = true ∧
    ((withStore loadingClip).store.clip 0).state = .empty ∧
    ((withStore loadingClip).store.clip 2).length <
      ((withStore loadingClip).store.clip 2).fill + [(7 : Word), 8].length ∧
    ((withStore readyClip).store.clip 2).state ≠ .loading := by decide

/-- A body of a clip number alone is refused with REFUSED_LENGTH (R110). -/
theorem test_clip_data_length :
    (match exec (.clipData [2]) (withStore loadingClip) with
      | .next t => decide (t.replies = [{ kind := 0x31, code := .refusedLength, results := [] }])
      | _ => false) = true := by decide

theorem wit_ClipsAreRemovedAndReleased :
    clipOf 2 = some 2 ∧
    ((withStore loadingClip).accepts = true ∧ ((withStore loadingClip).store.clip 2).state = .loading) ∧
    ((withStore readyClip).accepts = true ∧ ((withStore readyClip).store.clip 2).state = .ready ∧
      ((withStore readyClip).store.clip 2).uses = 0) ∧
    ((withStore { readyClip with uses := 1 }).store.clip 2).uses ≠ 0 ∧
    ((withStore { readyClip with state := .retiring, uses := 1 }).store.clip 2).state = .retiring ∧
    (up.store.clip 2).state = .empty := by decide

theorem wit_PromptPlayAppendsTheEntry :
    posOf 1 = some 1 ∧ clipOf 2 = some 2 ∧ onOffOf 1 = some true ∧
    (let s := withStore readyClip
     s.accepts = true ∧ (s.posn 1).record.stored ≠ .closed ∧ (s.store.clip 2).state = .ready ∧
       (s.posn 1).player.state = .idle ∧ (s.posn 1).player.queue = []) ∧
    (let s := (withStore readyClip).modPosn 1 fun x => { x with player := playing [entry, entry, entry] }
     s.accepts = true ∧ (s.posn 1).record.stored ≠ .closed ∧ (s.store.clip 2).state = .ready ∧
       (s.posn 1).player.state ≠ .idle ∧ (s.posn 1).player.queue.length < 4) ∧
    4 ≤ (playing [entry, entry, entry, entry]).queue.length ∧
    (up.posn 1).record.stored = .closed ∧ (one.store.clip 2).state ≠ .ready := by decide

theorem wit_UrgentPlayDisplacesTheHead :
    (let s := (withStore { readyClip with uses := 4 }).modPosn 1 fun x =>
        { x with player := playing [entry, entry, entry, entry] }
     s.accepts = true ∧ (s.posn 1).record.stored ≠ .closed ∧ (s.store.clip 2).state = .ready) ∧
    posOf 1 = some 1 ∧ clipOf 2 = some 2 ∧ onOffOf 0 = some false ∧ ¬ 255 < (255 : Word).toNat ∧
    255 < (256 : Word).toNat ∧ 8192 < (8193 : Word).toNat ∧ 4096 < (4097 : Word).toNat := by decide

theorem wit_PromptStopEndsPrompts :
    posOf 1 = some 1 ∧
    (one.accepts = true ∧ (one.posn 1).record.stored ≠ .closed ∧ (one.posn 1).player.state = .idle ∧
      (one.posn 1).player.queue = []) ∧
    (let s := one.modPosn 1 fun x => { x with player := playing [entry, entry] }
     s.accepts = true ∧ (s.posn 1).record.stored ≠ .closed ∧ (s.posn 1).player.state ≠ .idle ∧
       (s.posn 1).player.queue = entry :: [entry]) ∧
    (up.posn 1).record.stored = .closed := by decide

theorem wit_ShockCommandsActOnTheStage :
    up.accepts = true ∧ posOf 31 = some 31 ∧ shockModeOf 1 = some .latched ∧
    (up.posn 31).shock.state ≠ .latched ∧
    (let s := up.modPosn 31 fun x => { x with shock := { x.shock with state := .latched } }
     s.accepts = true ∧ (s.posn 31).shock.state = .latched) := by decide

theorem wit_KeymapSetAndLinkArm :
    up.accepts = true ∧ up.hlink.state = .driving ∧
    (keyOf 3 = some .volDown ∧ reportOf 3 = some .both ∧ actionOf 5 = some .volumeDown ∧
      debounceOf 7 = some 7) ∧
    (let s : State := { up with hlink := { state := .conflict, foreignCount := 0 } }
     s.accepts = true ∧ s.hlink.state = .conflict) := by decide

/-! ### Turns -/

theorem wit_TurnOfATalkingPosition :
    (one.turnReady 1 = true ∧ (one.posn 1).record.stored = .active ∧ (one.posn 1).record.closeReq = false ∧
      tearsDown (one.posn 1).record = false ∧ (one.posn 1).shock.state ≠ .limiting) ∧
    (let s := one.modPosn 1 fun x => { x with shock := { x.shock with state := .limiting, hold := 2 } }
     s.turnReady 1 = true ∧ tearsDown (s.posn 1).record = false ∧ (s.posn 1).shock.state = .limiting ∧
       2 ≤ (s.posn 1).shock.hold) ∧
    (let s := one.modPosn 1 fun x => { x with shock := { x.shock with state := .limiting, hold := 1 } }
     (s.posn 1).shock.state = .limiting ∧ (s.posn 1).shock.hold ≤ 1) ∧
    (State.reset.turnDue 0 = true ∧ State.reset.flags.profilesDone = false) ∧
    (up.turnReady 1 = true ∧ (up.posn 1).record.stored = .closed ∧ tearsDown (up.posn 1).record = false) := by decide

/-- The part with a position in a given stored state, its close request set or clear. -/
def standing (st : StoredState) (close : Bool) : State :=
  up.setPosn 1 { talk with record := { talk.record with stored := st, closeReq := close } }

theorem wit_OpeningExitAndClosingEntry :
    (let s := standing .opening false
     s.turnReady 1 = true ∧ (s.posn 1).record.stored = .opening ∧ (s.posn 1).record.closeReq = false) ∧
    (let s := standing .active true
     s.turnReady 1 = true ∧ (s.posn 1).record.stored = .active ∧ (s.posn 1).record.closeReq = true) ∧
    (let s := standing .opening true
     s.turnReady 1 = true ∧ (s.posn 1).record.stored = .opening ∧ (s.posn 1).record.closeReq = true) := by
  decide

theorem wit_TailChangesAreAppliedAtTheTurn :
    (let s := tailed [elem 0 false] (some .grow)
     s.turnReady 1 = true ∧ tearsDown (s.posn 1).record = false ∧ (s.posn 1).taps.change = some .grow ∧
       (s.posn 1).record.stored = .active ∧ attachedCount (s.posn 1).taps.elems = 0) ∧
    (let s := tailed [elem 0 true] (some (.shrink 0))
     s.turnReady 1 = true ∧ tearsDown (s.posn 1).record = false ∧
       (s.posn 1).taps.change = some (.shrink 0) ∧ (s.posn 1).record.stored = .active ∧
       attachedCount (s.posn 1).taps.elems ≠ 0) := by decide

theorem wit_TeardownClosesThePosition :
    let s := up.setPosn 1 { talk with record := { talk.record with stored := .closing, wo := 0 } }
    s.turnReady 1 = true ∧ (s.posn 1).record.stored = .closing ∧ (s.posn 1).record.wo = 0 ∧
      (s.posn 1).taps.change = none ∧ s.events.length + 2 * (s.posn 1).player.queue.length + 3 ≤ 64 := by
  decide

/-- A canceller at the end of a loud cycle with nothing frozen. -/
def judged (st : EcState) (sumE conv div : Nat) : Canceller :=
  { Canceller.reset with
    state := st, freezeEnd := { hold := false, mgmt := false, link := false }, power := 16777216
    sumD := 4194304, sumE := sumE, convCount := conv, divCount := div, resetCount := 2, hist := [] }

/-- The part with a position in TALK and a canceller at the end of its cycle. -/
def judging (c : Canceller) : State := up.setPosn 1 { talk with ec := c }

theorem wit_CancellerConvergesAndDiverges :
    ((0 : Nat) < 1 ∧ (1 : Nat) ≤ 15 ∧ (15 : Nat) ≤ 15) ∧
    (let s := judging (judged .converging 65536 3 0)
     let c := (s.posn 1).ec
     s.turnReady 1 = true ∧ (s.posn 1).record.stored = .active ∧ (s.posn 1).taps.change = none ∧
       c.freezeEnd = { hold := false, mgmt := false, link := false } ∧
       (s.posn 1).inForce.params.regR * 65536 ≤ c.power ∧ 0 < c.sumD ∧ c.state = .converging ∧
       ¬ (2 * c.sumD < c.sumE ∧ 2097152 ≤ c.sumE) ∧
       (s.posn 1).record.params.convBand ≤ erleBand c.sumD c.sumE ∧ 3 ≤ c.convCount) ∧
    (let s := judging (judged .converged 8388609 0 1)
     let c := (s.posn 1).ec
     s.turnReady 1 = true ∧ (s.posn 1).record.stored = .active ∧ (s.posn 1).taps.change = none ∧
       c.freezeEnd = { hold := false, mgmt := false, link := false } ∧
       (s.posn 1).inForce.params.regR * 65536 ≤ c.power ∧ 0 < c.sumD ∧ c.state = .converged ∧
       (2 * c.sumD < c.sumE ∧ 2097152 ≤ c.sumE) ∧ 1 ≤ c.divCount) ∧
    -- the first divergent turn, with a band setting of 0 and so at a band at or above it
    (let s := (judging (judged .converging 8388609 2 0)).modPosn 1 fun x =>
      { x with record := { x.record with params := { x.record.params with convBand := 0 } } }
     let c := (s.posn 1).ec
     s.turnReady 1 = true ∧ (2 * c.sumD < c.sumE ∧ 2097152 ≤ c.sumE) ∧ ¬ 1 ≤ c.divCount ∧
       (s.posn 1).record.params.convBand ≤ erleBand c.sumD c.sumE ∧ c.convCount < 3) ∧
    -- a counted turn below the setting, and a turn that is not counted
    (let s := judging (judged .converging 4194304 2 1)
     s.turnReady 1 = true ∧
       erleBand (s.posn 1).ec.sumD (s.posn 1).ec.sumE < (s.posn 1).record.params.convBand) ∧
    (let s := judging { judged .converging 65536 2 1 with power := 0 }
     s.turnReady 1 = true ∧ ¬ (s.posn 1).inForce.params.regR * 65536 ≤ (s.posn 1).ec.power) ∧
    -- the captures
    ((one.posn 1).record.params.capture = .auto ∧ (one.posn 1).ec.unread = false) ∧
    (let s := (judging { judged .off 0 0 0 with unread := true }).modPosn 1 fun x =>
      { x with record := { x.record with params := { x.record.params with capture := .single } } }
     s.turnReady 1 = true ∧ (s.posn 1).record.params.capture = .single ∧ (s.posn 1).ec.unread = true) := by
  decide

/-! ### Frames -/

theorem wit_FrameDoesItsWorkAndStepsTheWeights :
    (set one).settled = true ∧
    (let s := (set one).modPosn 1 fun x => { x with record := { x.record with h := 1 } }
     s.settled = true ∧ (s.posn 1).record.stored ≠ .closing ∧ (s.posn 1).record.holdTarget = false ∧
       (s.posn 1).record.h = 1) ∧
    -- the pointer of a source that POS_SET has just written
    (let s := (set one).modPosn 1 fun x => { x with inForce := { x.inForce with readPtr := some 7 } }
     s.settled = true ∧ (s.posn 1).inForce.readPtr ≠ none) ∧
    -- a frame whose computation has been made
    (let s : State := { up with flags := { up.flags with computed := true } }
     s.resetLow = false ∧ s.flags.computed = true ∧ quiet.order.closes = true) ∧
    -- a message that waits, taken before the computation or after it
    (let s : State := { up with inputQueue := [msg] }
     s.begun = true ∧ s.inputQueue ≠ [] ∧ quiet.order.messageLast = false ∧
       ({ quiet.order with messageLast := true } : FrameOrder).closes = true) := by decide

theorem wit_FrameDoesItsWorkAndStepsTheWeights_due :
    -- the end of LOST, a due reset, a waiting message
    (let s : State := { up with
        tlink := { up.tlink with state := .lost }, flags := { up.flags with lostEnded := true } }
     s.resetLow = false ∧ s.flags.computed = false ∧ s.tlink.state = .lost ∧ s.flags.lostEnded = true ∧
       ∃ t, exec .tlinkLostExpire s = .next t) ∧
    (let s : State := { up with cmdUnit := .heldResetDue }
     s.resetLow = false ∧ s.flags.computed = false ∧ s.cmdUnit = .heldResetDue ∧
       ∃ t, exec .devResetPerform s = .next t) ∧
    ({ up with inputQueue := [msg] } : State).begun = true ∧
    -- the cycle start of frame 0
    (zero.begun = true ∧ zero.takeHead = zero ∧ zero.timer.number = 0 ∧
      ∃ t, runAll [.cycleStart, .profilePendingApply, .routeCommitApply] zero = .next t) ∧
    -- the turn of the frame's position, and a teardown that its player precedes
    (one.begun = true ∧ one.takeHead = one ∧ one.cycleDone = true ∧ quiet.order.playersBeforeTurn = false ∧
      ∃ t, exec (.positionTurn 1) one = .next t) ∧
    (let s := up.setPosn 1 { talk with record := { talk.record with stored := .closing, wo := 0 } }
     s.begun = true ∧ s.takeHead = s ∧ s.cycleDone = true ∧ (s.posn 1).record.stored = .closing ∧
       (s.posn 1).record.wo = 0 ∧ s.flags.turnDone = false ∧ (playerOutput (s.posn 1).player s.store).completed = none ∧
       ∃ t, exec (.positionTurn 1) s = .next t) :=
  ⟨⟨rfl, rfl, rfl, rfl, _, rfl⟩, ⟨rfl, rfl, rfl, _, rfl⟩, rfl, ⟨rfl, rfl, rfl, _, rfl⟩,
    ⟨rfl, rfl, rfl, rfl, _, rfl⟩, ⟨rfl, rfl, rfl, rfl, rfl, rfl, rfl, _, rfl⟩⟩

/-- The message that waits is taken in the frame, though its computation has been made (R162). -/
theorem test_computed_frame_takes_a_message :
    (match exec (.frame quiet)
        { up with inputQueue := [{ kind := 0x03, body := [4] }], flags := { up.flags with computed := true } } with
      | .next t => decide (t.inputQueue = []) &&
          decide (t.replies = [{ kind := 0x03, code := .refusedState, results := [] }])
      | _ => false) = true := by decide

/-- A reply of one word: its message has three symbols. -/
def doneReply : Reply := { kind := 0x03, code := .done, results := [] }

theorem wit_FrameDrivesTheLinks :
    (set up).settled = true ∧ up.tlink.state = .up ∧ up.hlink.state = .driving ∧ up.flags.armed = false ∧
    (set State.reset).tlink.state ≠ .up ∧
    ({ set up with hlink := { state := .conflict, foreignCount := 0 } } : State).settled = true ∧
    ({ up with flags := { (set up).flags with armed := true } } : State).settled = true ∧
    (let s : State := { set up with
        replies := [doneReply], arbiter := { tx := some { isReply := true, sent := 2 }, owed := 0 } }
     s.settled = true ∧ s.replies = doneReply :: [] ∧
       s.arbiter.tx = some { isReply := true, sent := 2 } ∧
       2 + 1 = (symbolsOf (replyMessage doneReply)).length) ∧
    (let s : State := { set up with
        events := [.mgmtReady], arbiter := { tx := some { isReply := false, sent := 2 }, owed := 0 } }
     s.settled = true ∧ s.events = .mgmtReady :: [] ∧
       s.arbiter.tx = some { isReply := false, sent := 2 } ∧
       2 + 1 = (symbolsOf (eventMessage .mgmtReady)).length) := by decide

theorem wit_FrameDrivesTheLinks_arbiter :
    -- a BODY of each kind
    (let s : State := { set up with
        replies := [doneReply], arbiter := { tx := some { isReply := true, sent := 1 }, owed := 0 } }
     s.settled = true ∧ 1 ≤ (replyMessage doneReply).body.length) ∧
    (let s : State := { set up with
        events := [.mgmtReady], arbiter := { tx := some { isReply := false, sent := 1 }, owed := 0 } }
     s.settled = true ∧ 1 ≤ (eventMessage .mgmtReady).body.length) ∧
    -- an owed GAP, and the HEAD of a reply and of an event that were there before the frame
    (let s : State := { set up with arbiter := { tx := none, owed := 1 } }
     s.settled = true ∧ s.arbiter.tx = none ∧ 0 < s.arbiter.owed) ∧
    (let s : State := { set up with replies := [doneReply] }
     s.settled = true ∧ s.arbiter.tx = none ∧ s.arbiter.owed = 0 ∧ s.flags.newReplies < s.replies.length) ∧
    (let s : State := { set up with events := [.mgmtReady] }
     s.settled = true ∧ s.arbiter.owed = 0 ∧ s.replies = [] ∧ s.flags.runs.length < s.events.length) ∧
    -- the first choice over what the frame itself raised
    (let s : State := { set up with events := [.mgmtReady], flags := { (set up).flags with runs := [{ block := .receiver, behind := none, tied := false }] } }
     s.settled = true ∧ s.replies = [] ∧ s.events.length ≤ s.flags.runs.length) := by decide

/-- The choice of a frame that falls before its replies. -/
def between (picks : List EventBlock) : FrameOrder := { quiet.order with choice := .between, picks := picks }

/-- Two entries complete in one frame, and the first was the last use of a RETIRING clip. -/
def twoCompleted : List (EventRun × Event) :=
  [({ block := .players, behind := none, tied := false }, .promptDone 5 1 1),
    ({ block := .clips, behind := some .players, tied := false }, .clipFreed 1),
    ({ block := .players, behind := none, tied := false }, .promptDone 9 2 1)]

theorem wit_FrameDrivesTheLinks_order :
    -- a computed frame with two events of its own, and a third that found the queue full
    (let s : State := { up with
        events := List.replicate 63 .mgmtReady ++ [.posClosed 1]
        flags := { up.flags with
          computed := true
          runs := [{ block := .receiver, behind := none, tied := false }, { block := .positions, behind := none, tied := false }]
          lost := [({ block := .players, behind := none, tied := false }, .promptDone 5 1 1)] } }
     s.resetLow = false ∧ s.flags.computed = true ∧ s.takeHead = s ∧ s.arbiter.tx = none ∧
       s.flags.runs.length ≤ s.events.length) ∧
    -- a computed frame in which a CLIP_FREED stands behind its cause
    (let s : State := { up with
        events := twoCompleted.map Prod.snd
        flags := { up.flags with computed := true, runs := twoCompleted.map Prod.fst } }
     s.resetLow = false ∧ s.flags.computed = true ∧ s.takeHead = s ∧ s.arbiter.tx = none ∧
       s.flags.runs.length ≤ s.events.length) ∧
    -- a choice between the events of the computation and a reply of the frame
    (let s : State := { set up with replies := [doneReply], flags := { (set up).flags with newReplies := 1 } }
     s.settled = true ∧ s.arbiter.tx = none ∧ s.arbiter.owed = 0 ∧ s.replies.length ≤ s.flags.newReplies ∧
       (between []).choice = .between ∧ s.events = [] ∧ s.flags.runs = [] ∧ s.flags.lost = [] ∧
       s.flags.taken = none) :=
  ⟨⟨rfl, rfl, rfl, rfl, by decide⟩, ⟨rfl, rfl, rfl, rfl, by decide⟩, by decide⟩

/-- CLIP_FREED of a teardown that raises nothing before it stands before POS_CLOSED, whatever block is
picked first (R8). -/
theorem test_teardown_keeps_its_order :
    (let s := (withStore { readyClip with state := .retiring, uses := 1 }).modPosn 1 fun x =>
        { x with record := { x.record with
          stored := .closing, wo := 0, params := { x.record.params with holdSource := .clip 2 } } }
     ((s.tearDown 1).orderEvents { quiet.order with picks := [.positions] }).events) =
      [.clipFreed 2, .posClosed 1] := by decide

/-- CLIP_FREED may come after the events of both entries, and never before that of its own (R114, R170). -/
theorem test_clip_freed_behind_its_cause :
    (orderRuns { quiet.order with picks := [.players, .players] } twoCompleted).map Prod.snd =
      [.promptDone 5 1 1, .promptDone 9 2 1, .clipFreed 1] ∧
    (orderRuns { quiet.order with picks := [.clips] } twoCompleted).map Prod.snd =
      [.promptDone 5 1 1, .clipFreed 1, .promptDone 9 2 1] := by decide

/-- A queue with room for one, an EC_CONVERGED and a PROMPT_DONE, ordered once, and then a PROMPT_DROPPED of
the same player. -/
def orderedOnce : State :=
  let s : State := { up with events := List.replicate 63 .mgmtReady }
  (((s.raise (.ecConverged 3 9)).raise (.promptDone 5 1 1)).orderEvents quiet.order).raise
    (.promptDropped 5 2 0 .stopNow)

/-- Ordered again, the player's events take the place in their order or not at all (R164, R170). -/
theorem test_order_twice :
    orderedOnce.events.getLast? = some (.ecConverged 3 9) ∧
    (orderedOnce.orderEvents { quiet.order with picks := [.players] }).events.getLast? =
      some (.promptDone 5 1 1) ∧
    (orderedOnce.orderEvents { quiet.order with picks := [.canceller, .players] }).events.getLast? =
      some (.ecConverged 3 9) := by decide

/-- After an event has left a full queue, what the frame raises stands behind what it had queued (R164). -/
theorem test_lost_for_good :
    (let s := (orderedOnce.messageGone false).raise (.promptDropped 5 3 0 .stopNow)
     ((s.orderEvents { quiet.order with picks := [.players] }).events.drop 62)) =
      [.ecConverged 3 9, .promptDropped 5 3 0 .stopNow] := by decide

/-- PROMPT_DONE may be chosen before the reply of a commit of its frame, and not before that of a message
taken before it (R165, R170). -/
theorem test_prompt_done_before_commit_reply :
    (let reply : Reply := { kind := 0x23, code := .done, results := [0] }
     let s : State := { withStore { readyClip with uses := 1 } with replies := [reply] }
     let s : State := { s with flags := { s.flags with newReplies := 1 } }
     let t := (s.promptCompleted 1 (some (entry, 1))).orderEvents (between [])
     let u := ((s.busy 0x3A).promptCompleted 1 (some (entry, 1))).orderEvents (between [])
     (t.replyWaits (between []), t.eventWaits (between []), u.eventWaits (between []))) =
      (false, true, false) := by decide

theorem wit_CancellerRunsItsFrame :
    let s := (set one).modPosn 1 fun x => { x with ec := { x.ec with state := .converging, hangover := 1 } }
    s.settled = true ∧ (s.posn 1).ec.state ≠ .off ∧ s.returnSample quiet (s.posn 1) = 0 ∧
      (s.posn 1).inForce.params.dtRatio ≠ 0 ∧ (s.posn 1).ec.hangover = 1 ∧ (s.posn 0).ec.state = .off ∧
      (s.posn 0).record.stored = .closed ∧ (s.posn 1).record.stored ≠ .closed ∧
      (s.posn 1).record.hSlot ≠ none ∧ s.tOwner 5 = some 1 := by decide

/-- A canceller over one block whose history holds loud samples, with its gate open. -/
def adapting : State :=
  set (up.setPosn 1
    { talk with
      taps := { elems := [{ block := { index := 0, coefs := List.replicate 64 0 }, attached := true }], change := none }
      ec := { Canceller.reset with
        state := .converging, freeze := { hold := false, mgmt := false, link := false }
        hist := List.replicate 1024 0x4000 } })

theorem wit_CancellerRunsItsFrame_adapts :
    adapting.settled = true ∧
    (let x := adapting.posn 1
     let n := (ecFrame true false x.inForce.params x.ec x.taps.elems 0 0).ec
     let q := x.inForce.params
     (x.ec.state = .converging ∧ n.freeze = { hold := false, mgmt := false, link := false } ∧ n.hangover = 0 ∧
       ¬ (q.dtRatio = 0 ∨ q.dtRatio * n.winMax < (0 : Int).natAbs * 4096) ∧
       q.regR * 65536 ≤ n.power ∧ 0 < q.stepM) ∧
     x.taps.elems.length ≤ 16 ∧ (∀ b ∈ x.taps.elems, b.block.coefs.length = 64)) := by decide +kernel

theorem wit_CancellerRunsItsFrame_history : (adapting.posn 1).ec.hist.length = 1024 := List.length_replicate ..

/-- The part with clip 2 READY and position 1 at the last word of its head. -/
def ending (l : List PromptEntry) (remaining : Nat) : State :=
  set ((withStore { readyClip with uses := l.length }).modPosn 1 fun x =>
    { x with player := { playing l with remaining := remaining } })

theorem wit_PromptPassesComplete :
    (let s := ending [entry] 1
     let pl := (s.posn 1).player
     s.settled = true ∧ (s.posn 1).record.stored ≠ .closed ∧ pl.queue = entry :: [] ∧ pl.state ≠ .idle ∧
       pl.startPending = false ∧ (s.store.clip entry.clip).length ≤ pl.readPtr + 1 ∧
       ¬ (pl.state = .playing ∧ (entry.repeats = 0 ∨ 2 ≤ pl.remaining)) ∧
       (∀ q : Position, q ≠ 1 → (s.posn q).record.stored = .closed) ∧ entry.notify = true ∧
       s.arbiter.tx = none ∧ s.flags.lost = [] ∧ s.events.length + 4 ≤ 64) ∧
    (let e : PromptEntry := { entry with repeats := 0 }
     let s := ending [e] 0
     s.settled = true ∧ (s.posn 1).player.queue = e :: [] ∧ (s.posn 1).player.state = .playing ∧
       e.repeats = 0) ∧
    (let s := ending [entry, entry] 2
     s.settled = true ∧ (s.posn 1).player.state = .playing ∧ entry.repeats ≠ 0 ∧
       2 ≤ (s.posn 1).player.remaining) ∧
    (ending [entry, entry] 1).settled = true := by decide

/-- The part with position 1 in plain talk, its over-count one short of its detection. -/
def loud (st : ShockState) : State :=
  (set one).modPosn 1 fun x =>
    { x with
      shock := { x.shock with state := st, overCount := 3, sg := 4096 }
      inForce := { x.inForce with params := { x.inForce.params with sidetone := 0 } } }

theorem wit_ShockStageFollowsTheEar :
    (let s := loud .normal
     let x := s.posn 1
     s.settled = true ∧ x.record.stored ≠ .closed ∧ s.tlink.state = .up ∧ x.ec.state = .off ∧
       x.record.h = 0 ∧ x.record.holdTarget = false ∧ x.record.wo = 32 ∧ x.record.outTarget = true ∧
       x.player.queue = [] ∧ x.player.state = .idle ∧ x.player.wd = 0 ∧ x.inForce.params.sidetone = 0 ∧
       x.inForce.volume = 10 ∧ (∀ r ∈ s.latch.routes, ¬ (r.pair.dstKind = .ear ∧ r.pair.dst = 1)) ∧
       s.hOwner 3 = some 1 ∧ x.record.tSlot = some 5 ∧
       -- the sample 16384 reaches the threshold and fills the over-count
       x.shock.filterK ≤ (if x.shock.threshold ≤ (16384 : Word).toInt.natAbs then min 16 (x.shock.overCount + 1) else 0)) ∧
    (let s := loud .releasing
     -- the sample 0 does not, and the ramp is at its end
     (s.posn 1).shock.state = .releasing ∧ ¬ (s.posn 1).shock.filterK ≤ 0 ∧
       min 4096 ((s.posn 1).shock.sg + (s.posn 1).shock.releaseStep) = 4096) ∧
    -- the events find room
    (loud .normal).arbiter.tx = none ∧ (loud .normal).flags.lost = [] ∧ (loud .normal).eventsLost < 65535 := by
  decide

/-- A frame's computation on a queue with room raises SHOCK_ON and loses nothing (R130). -/
theorem wit_ShockStageFollowsTheEar_event :
    let x := (loud .normal).posn 1
    let s := (loud .normal).takeFrameEvent (.shock (shockOnEvent 1 x))
    s.eventsLost = (loud .normal).eventsLost ∧ s.events = [.shockOn 1 10 1024 .auto] := by decide

theorem wit_UplinksAndSendsAreFormed :
    (let s := (set one).modPosn 1 fun x => { x with record := { x.record with h := 32, holdTarget := true } }
     s.settled = true ∧ (s.posn 1).record.stored = .active ∧ (s.posn 1).record.hSlot = some 3 ∧
       s.tOwner 5 = some 1 ∧ (s.posn 1).record.h = 32 ∧ (s.posn 1).record.holdTarget = true ∧
       (s.posn 1).inForce.params.holdSource = .prog 0 ∧ s.latch.sounding[0] = false ∧
       (s.posn 0).record.stored = .closed) ∧
    (mapped.setPosn 1 talk).tOwner 5 = some 0 ∧ (mapped.posn 0).record.stored = .closed ∧
    (let s : State :=
      { ((set one).modPosn 1 fun x => { x with record := { x.record with wm := 32, muteTarget := true } }) with
        profiles := Vector.replicate 4 { Profile.reset with bypass := true } }
     s.settled = true ∧ s.tOwner 5 = some 1 ∧ (s.posn 1).record.h = 0 ∧
       (s.posn 1).record.holdTarget = false ∧ (s.posn 1).record.wo = 32 ∧
       (s.posn 1).record.outTarget = true ∧ (s.posn 1).record.wm = 32 ∧
       (s.posn 1).record.muteTarget = true ∧
       (s.profiles[(s.posn 1).inForce.params.nsProfile.val]).bypass = true ∧
       (∀ r ∈ s.latch.routes, ¬ (r.pair.dstKind = .send ∧ r.pair.dst = 1)) ∧ (∀ r ∈ s.latch.routes, forbiddenPair r.pair = false) ∧
       s.hlink.state = .driving ∧ s.flags.armed = false) := by decide

theorem wit_MutedMicReachesNothing :
    (set one).settled = true ∧ ((set one).posn 1).record.hSlot = some 3 ∧
    (∀ q : Position, q ≠ 1 → ((set one).posn q).record.hSlot ≠ some 3) ∧
    ((set one).posn 1).record.wm = 0 ∧ ((set one).posn 1).record.muteTarget = false := by decide

/-! ### Links and arrivals -/

/-- The part with its T-link receiver in a given state. -/
def linked (l : TLink) : State := { up with tlink := l }

theorem wit_MarkersAndQuietWindowsMoveTheLinks :
    (up.resetLow = false ∧ up.tlink.state = .up ∧ up.flags.computed = false ∧ up.tlink.bad = 0 ∧
      (0 : Word) ≠ markerWord up.timer.number) ∧
    (let s : State := { up with flags := { up.flags with computed := true } }
     s.resetLow = false ∧ s.tlink.state = .up ∧ s.flags.computed = true) ∧
    State.reset.tlink.state = .down ∧
    (∀ n : FrameNumber, (0 : Word) ≠ markerWord n) ∧
    (let s := linked { state := .acquiring, good := 2, bad := 0, lastGood := 31 }
     s.resetLow = false ∧ s.tlink.state = .acquiring ∧ 1 ≤ s.tlink.good ∧ s.tlink.good ≤ 2 ∧
       (0 : Word) ≠ markerWord (s.tlink.lastGood + 1)) ∧
    (let s : State := { linked { state := .lost, good := 0, bad := 0, lastGood := 0 } with
        flags := { up.flags with lostEnded := true } }
     s.resetLow = false ∧ s.tlink.state = .lost ∧ s.flags.lostEnded = true) ∧
    (up.hlink.state = .driving ∧ up.flags.armed = false ∧ up.hlink.foreignCount = 0) ∧
    (up.flags.heldWords = [] ∧
      ({ up with hlink := { up.hlink with foreignCount := 1 } } : State).hlink.foreignCount = 1) ∧
    (let s : State := { up with flags := { up.flags with computed := true } }
     s.resetLow = false ∧ s.hlink.state = .driving ∧ s.flags.computed = true) ∧
    (let s : State := { up with hlink := { state := .conflict, foreignCount := 0 } }
     s.resetLow = false ∧ s.hlink.state = .conflict) ∧
    (let s : State := { up with flags := { up.flags with armed := true } }
     s.resetLow = false ∧ s.flags.armed = true ∧ s.flags.computed = false) := by decide

/-- In CONFLICT nothing is driven any more (R153). -/
theorem test_conflict_stops_the_driver :
    (match exec (.hlinkQuietWindow true)
        { up with
          hlink := { state := .driving, foreignCount := 1 }
          outputs := { up.outputs with hFrame := some { marker := 0, audio := Vector.replicate 32 0, indicator := 0 } } } with
      | .next t => decide (t.hlink.state = .conflict) && decide (t.outputs.hFrame = none)
      | _ => false) = true := by decide

theorem wit_TrunkComesUpAndIsLost :
    (let s := linked { state := .acquiring, good := 3, bad := 0, lastGood := 31 }
     s.resetLow = false ∧ s.tlink.state = .acquiring ∧ s.tlink.good = 3 ∧ s.cmdUnit ≠ .heldResetDue ∧
       s.flags.computed = false) ∧
    (let s : State := { linked { state := .acquiring, good := 3, bad := 0, lastGood := 31 } with
        flags := { up.flags with computed := true } }
     s.resetLow = false ∧ s.tlink.state = .acquiring ∧ s.tlink.good = 3 ∧ s.cmdUnit ≠ .heldResetDue ∧
       s.flags.computed = true) ∧
    (let s : State := { linked { state := .acquiring, good := 3, bad := 0, lastGood := 31 } with
        cmdUnit := .heldResetDue }
     s.resetLow = false ∧ s.tlink.state = .acquiring ∧ s.tlink.good = 3 ∧ s.cmdUnit = .heldResetDue) ∧
    (let s := linked { state := .up, good := 0, bad := 1, lastGood := 0 }
     s.resetLow = false ∧ s.flags.computed = false ∧ s.tlink.state = .up ∧ 1 ≤ s.tlink.bad ∧
       (0 : Word) ≠ markerWord s.timer.number ∧ s.events.length + 2 ≤ 64) := by decide

theorem wit_SymbolsAssembleTheirMessage :
    up.resetLow = false ∧ up.tlink.state = .up ∧ up.receiver.assembly = none ∧ up.receiver.breakRun = 0 ∧
    ({ kind := 0x18, body := List.replicate 16 0 } : Message).body.length ≤ 16 ∧
    messageOf (.posVolumeStepUp [31, 0]) = some { kind := 0x06, body := [31, 1, 0] } := by decide

/-- A message in assembly. -/
def assembly (gaps : Nat) : Assembly := { kind := 0x03, length := 1, words := [], sum := 0x0301, gaps := gaps }

/-- The receiver of a part whose trunk is UP. -/
def receiving (a : Option Assembly) (brks : Nat) : State :=
  { up with receiver := { up.receiver with assembly := a, breakRun := brks } }

theorem wit_BreakAndGapTimeout_symbols :
    (∀ n ∈ [0, 1, 3, 4], (receiving none n).resetLow = false ∧ (receiving none n).tlink.state = .up ∧
      (receiving none n).receiver.breakRun = n) ∧
    -- HEADs of 16 and of 17 words, idle and in a message
    (0x0310 : Word).toNat % 256 = 16 ∧ (0x0311 : Word).toNat % 256 = 17 ∧
    (receiving none 0).receiver.assembly = none ∧ (receiving (some (assembly 0)) 0).receiver.assembly ≠ none ∧
    -- a message with room, and one that holds all its words
    (receiving (some (assembly 0)) 0).receiver.assembly = some (assembly 0) ∧
    (assembly 0).words.length < (assembly 0).length ∧
    (let a := { assembly 0 with words := [4], sum := 0x0305 }
     a.words.length = a.length ∧ (0x0305 : Word) = a.sum ∧ (0 : Word) ≠ a.sum) ∧
    (0x1E04 : Word) ∉ ([0, 0x1E01, 0x1E02, 0x1E03, 0x1EFF] : List Word) := by decide

/-- A TAIL with another check word is a check failure (R157). -/
theorem test_check_failure :
    (match exec (.mgmtSymbol 0x1E03 0)
        (receiving (some { assembly 0 with words := [4], sum := 0x0305 }) 0) with
      | .next t => decide (t.receiver = { up.receiver with checkFailures := 1 })
      | _ => false) = true := by decide

/-- A run of 2 BRK that a GAP ends is one framing error (R158). -/
theorem test_short_break_run :
    (match exec (.mgmtSymbol 0 0) (receiving none 2) with
      | .next t => decide (t.receiver = { up.receiver with framingErrors := 1 })
      | _ => false) = true := by decide

theorem wit_BreakAndGapTimeout :
    (let s : State := { up with receiver := { up.receiver with breakRun := 3 } }
     s.resetLow = false ∧ s.tlink.state = .up ∧ s.receiver.breakRun = 3 ∧ s.events.length + 2 ≤ 64) ∧
    (let s : State := { up with receiver := { up.receiver with assembly := some (assembly 15) } }
     s.resetLow = false ∧ s.tlink.state = .up ∧ s.receiver.breakRun = 0 ∧
       s.receiver.assembly = some (assembly 15) ∧ 15 ≤ (assembly 15).gaps) ∧
    (assembly 14).gaps ≤ 14 := by decide

theorem wit_ArrivalsMakeEdges :
    (up.resetLow = false ∧ up.arrivalValid 0x7FFF = false) ∧
    (let s : State := { up with hlink := { up.hlink with foreignCount := 1 } }
     s.resetLow = false ∧ s.hlink.state = .driving ∧ s.flags.armed = false ∧ s.flags.computed = false ∧
       s.flags.sensed = false ∧ s.flags.heldWords = [] ∧ s.hlink.foreignCount ≤ 1 ∧ s.begun = true ∧
       s.arrivalValid 0x8000 = true) ∧
    (let d : SlotDebouncers :=
      { SlotDebouncers.reset with
        presence := { level := false, count := 1 }, mute := { level := false, count := 1 } }
     let s : State := { one with
        debouncers := one.debouncers.set 1 d
        pos := one.pos.set 1 { talk with record := { talk.record with hSlot := some 1 } } }
     s.resetLow = false ∧ s.arrivalValid 0xC008 = true ∧ s.hlink.foreignCount ≠ 1 ∧ (s.presenceStep 0xC008).2 = true ∧
       (s.keyStep .mute 0xC008).2 = true ∧ s.hOwner s.timer.number = some 1 ∧
       (s.posn 1).record.keys = [] ∧ s.events.length + 5 ≤ 64) ∧
    State.reset.hOwner State.reset.timer.number = none := by decide

/-! ### Laws

Each law that a step is stated to keep holds of the part after reset with a command waiting, on which
the step answers a next state. -/

/-- The part after reset with one command waiting. -/
def waiting : State := { State.reset with pending := [.cycleStart] }

theorem waiting_step : ∃ t, step waiting = .next t ∧ t.flags.monitorDone = true :=
  ⟨_, rfl, by decide⟩

theorem waiting_posn (p : Position) : waiting.posn p = PosState.reset := by
  simp [waiting, State.posn, State.reset]

theorem wit_WeightsMoveByAtMostOne :
    waiting.weightsLaw ∧ (∀ rest, waiting.pending ≠ .pinReset :: rest) ∧
    waiting.cmdUnit ≠ .heldResetDue ∧ ∃ t, step waiting = .next t := by
  refine ⟨fun p => ?_, by simp [waiting], by decide, _, rfl⟩
  rw [waiting_posn]
  decide

theorem waiting_blocks : waiting.allBlocks = List.finRange 256 := by
  have h : (List.finRange 32).flatMap (fun p => (waiting.posn p).blocks) = [] := by
    simp [waiting_posn, PosState.blocks, PosState.reset, TapList.reset]
  have h2 : waiting.freeTaps = resetTaps := rfl
  rw [State.allBlocks, h, h2, resetTaps, List.map_map, List.append_nil]
  exact List.map_id _

theorem wit_TapBlocksAreConserved : waiting.tapLaw ∧ ∃ t, step waiting = .next t := by
  refine ⟨⟨?_, ?_, fun p => ?_, ?_, fun p => ?_⟩, _, rfl⟩
  · rw [waiting_blocks]
    exact List.nodup_finRange 256
  · rw [waiting_blocks]
    exact List.length_finRange
  · rw [waiting_posn]
    simp [PosState.reset, TapList.reset, attachedFirst]
  · simp [waiting, State.reset, resetTaps, Config.blockTaps]
  · rw [waiting_posn]
    simp [PosState.reset, TapList.reset, Canceller.reset]

theorem wit_RouteTablesStayLegal : waiting.routeLaw ∧ ∃ t, step waiting = .next t := by
  refine ⟨⟨?_, ?_, ?_⟩, _, rfl⟩ <;> simp [State.tableLaw, waiting, State.reset, routesInto]

theorem waiting_clip (c : ClipId) : waiting.store.clip c = Clip.empty := by
  simp [waiting, ClipStore.clip, State.reset, ClipStore.reset]

theorem wit_UseCountsAreExact : waiting.useLaw ∧ ∃ t, step waiting = .next t := by
  refine ⟨⟨fun c => ⟨?_, ?_⟩, fun p => ⟨?_, ?_⟩⟩, _, rfl⟩
  · have h : ∀ p : Position, (waiting.posn p).promptUses c +
        bit ((waiting.posn p).record.params.holdSource = .clip c) = 0 := fun p => by
      rw [waiting_posn]
      simp [PosState.promptUses, PosState.reset, Player.reset, Record.reset, Params.default, bit]
    rw [waiting_clip, State.clipUses]
    simp only [h]
    simp [Clip.empty, bit, waiting, State.reset] <;> decide
  · simp [waiting_clip, Clip.empty]
  · rw [waiting_posn]
    exact fun _ => ⟨rfl, 0, rfl⟩
  · rw [waiting_posn]
    simp [PosState.reset, Player.reset]

theorem wit_ClipWordsHaveOneOwner :
    waiting.storeLaw ∧ Memory.wf waiting.store.mem = true ∧ ∃ t, step waiting = .next t := by
  refine ⟨⟨by simp [waiting, State.reset, ClipStore.reset, extentsApart, Config.clipWords], fun a => ?_,
    fun c => ?_, fun c d => ?_⟩, rfl, _, rfl⟩
  · have h : (List.finRange 64).filter (fun c =>
        decide ((waiting.store.clip c).state ≠ .empty) &&
          covers (waiting.store.clip c).start (waiting.store.clip c).length a) = [] := by
      simp [waiting_clip, Clip.empty]
    rw [ClipStore.owners, h]
    by_cases ha : a < Config.clipWords <;>
      simp [waiting, State.reset, ClipStore.reset, covers, ha]
  · simp [waiting_clip, Clip.empty]
  · simp [waiting_clip, Clip.empty]

theorem wit_LinksShockAndSlotsStayConsistent :
    waiting.linkLaw ∧ waiting.shockLaw ∧ waiting.slotLaw ∧ ∃ t, step waiting = .next t := by
  refine ⟨⟨by decide, fun p => ?_⟩, fun p => ?_, fun p q _ => ?_, _, rfl⟩
  · rw [waiting_posn]
    decide
  · rw [waiting_posn]
    simp [PosState.reset, Shock.reset]
  · rw [waiting_posn, waiting_posn]
    simp [PosState.reset, Record.reset]

theorem wit_ListsStayWithinCapacity : waiting.queueLaw ∧ ∃ t, step waiting = .next t := by
  refine ⟨⟨by decide, by decide, by decide, by decide, by decide, fun p => ?_⟩, _, rfl⟩
  rw [waiting_posn]
  decide

end Sys2Proof.Tests
end

section
/-!
SUPPORT. PROFILE_WRITE and the suppressor's cycle start, each as one equation, and their two orders.
-/

namespace Sys2Proof.Machine

/-! ## Numeric words and their ranges (R13) -/

/-- A numeric word of a body of PROFILE_WRITE lies outside its range (R63). -/
abbrev profileOutside (a r i f u d : Word) (curve : List Word) : Prop :=
  7 < a.toNat ∨ 15 < r.toNat ∨ 15 < i.toNat ∨ f.toNat < 1 ∨ 32767 < f.toNat ∨ u.toNat < 1 ∨
    4096 < u.toNat ∨ d.toNat < 1 ∨ 4096 < d.toNat ∨ ∃ w ∈ curve, 4096 < w.toNat

theorem outside_eq_true_iff (lo hi : Nat) (w : Word) : outside lo hi w = true ↔ w.toNat < lo ∨ hi < w.toNat := by
  simp [outside, clampWord]

/-- PROFILE_WRITE clamps where a word lies outside its range. -/
theorem profileWrite_clamps_iff (a r i f u d : Word) (curve : List Word) :
    (outside 0 7 a || outside 0 15 r || outside 0 15 i || outside 1 32767 f || outside 1 4096 u ||
      outside 1 4096 d || curve.any (outside 0 4096)) = true ↔ profileOutside a r i f u d curve := by
  simp only [Bool.or_eq_true, List.any_eq_true, outside_eq_true_iff, profileOutside, Nat.not_lt_zero,
    false_or, or_assoc]

/-- The reply code of a PROFILE_WRITE that is taken (R72). -/
theorem profileWrite_code (a r i f u d : Word) (curve : List Word) :
    doneCode (outside 0 7 a || outside 0 15 r || outside 0 15 i || outside 1 32767 f || outside 1 4096 u ||
      outside 1 4096 d || curve.any (outside 0 4096)) =
      if profileOutside a r i f u d curve then .doneClamped else .done := by
  have hclamps := profileWrite_clamps_iff a r i f u d curve
  by_cases hout : profileOutside a r i f u d curve
  · rw [doneCode, if_pos (hclamps.mpr hout), if_pos hout]
  · rw [doneCode, if_neg fun h => hout (hclamps.mp h), if_neg hout]

/-- The stored profile, with every limit of R63 written out. -/
theorem profileOfWords_clamped (a r i f u d c0 c1 c2 c3 c4 c5 c6 c7 : Word) (bypass : Bool) :
    profileOfWords a r i f u d c0 c1 c2 c3 c4 c5 c6 c7 bypass =
      { attack := min 7 a.toNat, release := min 15 r.toNat, rise := min 15 i.toNat
        initialFloor := max 1 (min 32767 f.toNat), upStep := max 1 (min 4096 u.toNat)
        downStep := max 1 (min 4096 d.toNat)
        curve := (#v[c0, c1, c2, c3, c4, c5, c6, c7] : Vector Word 8).map fun (w : Word) => min 4096 w.toNat
        bypass := bypass } := by
  simp [profileOfWords, clampNat]

/-! ## PROFILE_WRITE (R72) -/

/-- The part with another pending copy of a profile. -/
def State.stagedProfile (s : State) (k : ProfileId) (q : Profile) : State :=
  { s with pendingProfiles := s.pendingProfiles.set k.val (some q) }

/-- The reply byte of PROFILE_WRITE: an earlier pending copy was replaced, or ended in this frame. -/
def State.replacesCopy (s : State) (k : ProfileId) : Bool :=
  (s.pendingProfiles[k.val]).isSome || s.flags.copiesApplied[k.val]

/-- PROFILE_WRITE, where the part takes it at once, stages the clamped copy and replies. -/
theorem exec_profileWrite_stages {s : State} (h : s.accepts = true)
    {wk a r i f u d c0 c1 c2 c3 c4 c5 c6 c7 wb : Word} {k : ProfileId} {bypass : Bool}
    (hk : profileOf wk = some k) (hb : onOffOf wb = some bypass) :
    exec (.profileWrite [wk, a, r, i, f, u, d, c0, c1, c2, c3, c4, c5, c6, c7, wb]) s = .next
      ((s.stagedProfile k (profileOfWords a r i f u d c0 c1 c2 c3 c4 c5 c6 c7 bypass)).said 0x18
        (if profileOutside a r i f u d [c0, c1, c2, c3, c4, c5, c6, c7] then .doneClamped else .done)
        [packBytes k.val (bit (s.replacesCopy k))]) := by
  rw [← profileWrite_code]
  refine submit_next h _ (f := cmdProfileWrite) rfl (s.accepts_up h) ?_
  simp only [cmdProfileWrite, hk, hb]
  rfl

/-! ## The cycle start (R73) -/

/-- PROFILE_PENDING_APPLY, where it is due. -/
theorem exec_profilePendingApply_due {s : State} (hr : s.resetLow = false) (hd : s.profilesDue = true) :
    exec .profilePendingApply s = .next s.profileCycle := by
  simp [exec, execProfilePendingApply, State.whenRunning, hr, hd]

@[simp] theorem State.profileCycle_profiles_getElem (s : State) (k : ProfileId) :
    s.profileCycle.profiles[k.val] = (s.pendingProfiles[k.val]).getD s.profiles[k.val] := by
  simp [State.profileCycle]

@[simp] theorem State.profileCycle_pendingProfiles_getElem (s : State) (k : ProfileId) :
    s.profileCycle.pendingProfiles[k.val] = none := by
  simp [State.profileCycle]

@[simp] theorem State.profileCycle_copiesApplied (s : State) :
    s.profileCycle.flags.copiesApplied = s.pendingProfiles.map fun q => q.isSome := by
  ext j hj : 1
  simp [State.profileCycle]

theorem State.profileCycle_accepts (s : State) : s.profileCycle.accepts = s.accepts := rfl

/-- The reply byte is the same behind the cycle start as before it (R74). -/
theorem State.profileCycle_replacesCopy {s : State} (h : s.flags.copiesApplied = Vector.replicate 4 false)
    (k : ProfileId) : s.profileCycle.replacesCopy k = s.replacesCopy k := by
  simp [State.replacesCopy, h]

theorem runAll_two_next {i j : Instr} {s t u : State} (hi : exec i s = .next t) (hj : exec j t = .next u) :
    runAll [i, j] s = .next u := by
  simp [runAll, hi, hj]

/-! ## Both orders (R74) -/

/-- In the frame of a cycle start the write and the cycle start give the same replies in either order; the copy
is active at once or waits. -/
theorem profileWrite_profilePendingApply_orders {s : State} (h : s.accepts = true) (hd : s.profilesDue = true)
    (hc : s.flags.copiesApplied = Vector.replicate 4 false)
    {wk a r i f u d c0 c1 c2 c3 c4 c5 c6 c7 wb : Word} {k : ProfileId} {bypass : Bool}
    (hk : profileOf wk = some k) (hb : onOffOf wb = some bypass) :
    ∃ (t v : State) (new : Profile),
      runAll [.profileWrite [wk, a, r, i, f, u, d, c0, c1, c2, c3, c4, c5, c6, c7, wb], .profilePendingApply] s =
        .next t ∧
      runAll [.profilePendingApply, .profileWrite [wk, a, r, i, f, u, d, c0, c1, c2, c3, c4, c5, c6, c7, wb]] s =
        .next v ∧
      t.replies = v.replies ∧
      t.profiles[k.val] = new ∧ t.pendingProfiles[k.val] = none ∧
      v.profiles[k.val] = (s.pendingProfiles[k.val]).getD s.profiles[k.val] ∧
      v.pendingProfiles[k.val] = some new := by
  have hr : s.resetLow = false := (s.accepts_iff.mp h).1
  have hcycle : s.profileCycle.accepts = true := s.profileCycle_accepts.trans h
  refine ⟨_, _, profileOfWords a r i f u d c0 c1 c2 c3 c4 c5 c6 c7 bypass,
    runAll_two_next (exec_profileWrite_stages h hk hb) (exec_profilePendingApply_due hr hd),
    runAll_two_next (exec_profilePendingApply_due hr hd) (exec_profileWrite_stages hcycle hk hb), ?_, ?_, ?_, ?_, ?_⟩
  · rw [State.profileCycle_replacesCopy hc]
    rfl
  · simp [State.stagedProfile]
  · simp
  · simp [State.stagedProfile]
  · simp [State.stagedProfile]

/-- Settles O21: each command's own equation, and the two orders of them. -/
theorem profilesAreStagedAndApplied : Obligations.ProfilesAreStagedAndApplied := by
  unfold Obligations.ProfilesAreStagedAndApplied
  refine ⟨?_, ?_, ?_⟩
  · intro s wk a r i f u d c0 c1 c2 c3 c4 c5 c6 c7 wb k bypass h hk hb
    rw [exec_profileWrite_stages h hk hb, profileOfWords_clamped]
    rfl
  · intro s hr hd
    refine ⟨_, exec_profilePendingApply_due hr hd, fun k => ⟨by simp, by simp⟩, ?_⟩
    rw [← State.profileCycle_copiesApplied]
    rfl
  · intro s body k bypass h hd hc hlen hk hb
    match body, hlen with
    | [wk, a, r, i, f, u, d, c0, c1, c2, c3, c4, c5, c6, c7, wb], _ =>
      exact profileWrite_profilePendingApply_orders h hd hc hk hb

end Sys2Proof.Machine
end

section
/-!
SUPPORT. The suppressor of a position is read by nothing but its own uplink and its own turn: every operation
of a frame behind the uplinks carries a replaced suppressor through unchanged.
-/

namespace Sys2Proof.Machine

/-! ## Replacing a suppressor -/

/-- The position with another suppressor state. -/
def PosState.withNs (n : Suppressor) (x : PosState) : PosState := { x with ns := n }

/-- The part with another suppressor state in position p. -/
def State.withNs (p : Position) (n : Suppressor) (s : State) : State := s.modPosn p (PosState.withNs n)

/-- What is read of the positions, suppressors apart, is not changed. -/
theorem State.reads_withNs {α : Type} (g : PosState → α) {n : Suppressor} (hg : ∀ x, g (x.withNs n) = g x)
    (p q : Position) (s : State) : g ((s.withNs p n).posn q) = g (s.posn q) := by
  by_cases h : q = p
  · subst h; simp [State.withNs, hg]
  · simp [State.withNs, h]

/-- Two vectors whose entries differ at p alone: the one is the other with p's entry replaced. -/
theorem ofFn_eq_set_of_ne {α : Type} (r : α → α) {f g : Position → α} {p : Position} (hp : g p = r (f p))
    (hne : ∀ q, q ≠ p → g q = f q) :
    Vector.ofFn g = (Vector.ofFn f).set p.val (r ((Vector.ofFn f)[p.val])) := by
  ext q hq : 1
  by_cases h : p.val = q
  · subst h; simp [hp]
  · have : (⟨q, hq⟩ : Position) ≠ p := fun e => h (by rw [← e])
    simp [h, hne _ this]

/-- A map of the positions that carries the suppressor of p through. -/
theorem State.mapPosns_withNs {f : Position → PosState → PosState} {p : Position} {n : Suppressor}
    (hf : ∀ x, f p (x.withNs n) = (f p x).withNs n) (s : State) :
    (s.withNs p n).mapPosns f = (s.mapPosns f).withNs p n := by
  rw [State.mapPosns, ofFn_eq_set_of_ne (f := fun q => f q (s.posn q)) (p := p) (PosState.withNs n)
    (by simp [State.withNs, hf]) (fun q h => by simp [State.withNs, h])]
  rfl

/-! ## Events and the outbound arbiter -/

section
variable (p : Position) (n : Suppressor) (s : State)

theorem State.raiseIn_withNs (b : EventBlock) (w : Option EventBlock) (e : Event) :
    (s.withNs p n).raiseIn b w e = (s.raiseIn b w e).withNs p n := by
  have hlen : (s.withNs p n).events = s.events := rfl
  simp only [State.raiseIn, hlen]
  split <;> rfl

theorem State.raiseAllIn_withNs (b : EventBlock) (w : Option EventBlock) (es : List Event) :
    (s.withNs p n).raiseAllIn b w es = (s.raiseAllIn b w es).withNs p n :=
  List.foldl_hom (State.withNs p n) fun t e => t.raiseIn_withNs p n b w e

theorem State.releaseUse_withNs (w : Option EventBlock) (c : ClipId) :
    (s.withNs p n).releaseUse w c = (s.releaseUse w c).withNs p n :=
  State.raiseAllIn_withNs p n { s with store := (s.store.releaseUse c).1 } .clips w _

theorem State.leaveQueue_withNs (e : PromptEntry) (r : Event) :
    (s.withNs p n).leaveQueue e r = (s.leaveQueue e r).withNs p n := by
  unfold State.leaveQueue
  split
  · rw [State.raise, State.raiseIn_withNs, State.releaseUse_withNs]; rfl
  · rw [State.releaseUse_withNs]

theorem State.takeFrameEvent_withNs (e : FrameEvent) :
    (s.withNs p n).takeFrameEvent e = (s.takeFrameEvent e).withNs p n := by
  cases e with
  | completed q e k => exact State.leaveQueue_withNs p n s e _
  | shock e => exact State.raiseIn_withNs p n s _ _ e

theorem State.takeFrameEvents_withNs (es : List FrameEvent) :
    es.foldl State.takeFrameEvent (s.withNs p n) = (es.foldl State.takeFrameEvent s).withNs p n :=
  List.foldl_hom (State.withNs p n) fun t e => t.takeFrameEvent_withNs p n e

theorem State.noteReplyGone_withNs : (s.withNs p n).noteReplyGone = s.noteReplyGone.withNs p n := by
  have hunit : (s.withNs p n).cmdUnit = s.cmdUnit := rfl
  have hreplies : (s.withNs p n).replies = s.replies := rfl
  simp only [State.noteReplyGone, hunit, hreplies]
  split <;> rfl

theorem State.messageGone_withNs (r : Bool) :
    (s.withNs p n).messageGone r = (s.messageGone r).withNs p n := by
  cases r with
  | true =>
    simp only [State.messageGone, if_true]
    symm
    exact (State.noteReplyGone_withNs p n _).symm
  | false => rfl

theorem State.sendSymbol_withNs (r : Bool) (k : Nat) :
    (s.withNs p n).sendSymbol r k = (s.sendSymbol r k).map (State.withNs p n) id := by
  have hsym : (s.withNs p n).txSymbols r = s.txSymbols r := rfl
  simp only [State.sendSymbol, State.messageGone_withNs, hsym]
  split <;> rfl

theorem State.outbound_withNs (o : FrameOrder) :
    (s.withNs p n).outbound o = (s.outbound o).map (State.withNs p n) id := by
  have hr : (s.withNs p n).replyWaits o = s.replyWaits o := rfl
  have he : (s.withNs p n).eventWaits o = s.eventWaits o := rfl
  have ht : (s.withNs p n).tlink = s.tlink := rfl
  have ha : (s.withNs p n).arbiter = s.arbiter := rfl
  simp only [State.outbound, hr, he, ht, ha, State.sendSymbol_withNs]
  repeat' split
  all_goals rfl

theorem State.orderEvents_withNs (o : FrameOrder) :
    (s.withNs p n).orderEvents o = (s.orderEvents o).withNs p n := rfl

theorem State.drive_withNs (a : AudioFrame) (i : Word) (y : Word × Word) :
    (s.withNs p n).drive a i y = (s.drive a i y).withNs p n := rfl

/-! ## Slots, indicator and the end of a frame -/

theorem State.hOwner_withNs (k : Slot) : (s.withNs p n).hOwner k = s.hOwner k := by
  simp only [State.hOwner, State.reads_withNs (fun x => x.record.hSlot) (fun _ => rfl)]

theorem State.tOwner_withNs (k : Slot) : (s.withNs p n).tOwner k = s.tOwner k := by
  simp only [State.tOwner, State.reads_withNs (fun x => x.record.tSlot) (fun _ => rfl)]

theorem State.indicatorFor_withNs (k : Slot) : (s.withNs p n).indicatorFor k = s.indicatorFor k := by
  simp only [State.indicatorFor, State.hOwner_withNs, State.reads_withNs indicatorOf fun _ => rfl]

theorem State.indicatorWord_withNs : (s.withNs p n).indicatorWord = s.indicatorWord :=
  State.indicatorFor_withNs p n s _

theorem State.audioOf_withNs (sends ears : Position → Int) :
    (s.withNs p n).audioOf sends ears = s.audioOf sends ears := by
  simp only [State.audioOf, State.hOwner_withNs, State.tOwner_withNs, State.reads_withNs fills fun _ => rfl]

theorem State.endFrame_withNs : (s.withNs p n).endFrame = s.endFrame.withNs p n := by
  have hl : (s.withNs p n).latched = s.latched := by
    simp only [State.latched, State.indicatorFor_withNs]
    rfl
  have hm := State.mapPosns_withNs (f := fun _ x => latchPosn x) (p := p) (n := n) (fun _ => rfl) s
  unfold State.endFrame
  rw [hl, hm]
  rfl

theorem State.closeIf_withNs (hq : s.inputQueue = []) (o : FrameOrder) :
    (s.withNs p n).closeIf o = (s.closeIf o).withNs p n := by
  rw [State.closeIf_eq hq, State.closeIf_eq (s := s.withNs p n) hq, State.endFrame_withNs,
    ← apply_ite (State.withNs p n)]

end

/-! ## The lanes of a frame -/

/-- The lane with another suppressor state. -/
def Lane.withNs (n : Suppressor) (l : Lane) : Lane := { l with posn := l.posn.withNs n }

/-- The ear lane with another suppressor state. -/
def EarLane.withNs (n : Suppressor) (l : EarLane) : EarLane := { l with posn := l.posn.withNs n }

/-- The lanes of a stage with another suppressor state in position p. -/
def Lanes.withNs (p : Position) (n : Suppressor) (l : Lanes) : Lanes := l.set p.val (l[p.val].withNs n)

theorem sendLane_withNs (l : Latch) (mem : List ClipCell) (prog : ProgId → Int) (talk : Int) (x : PosState)
    (n : Suppressor) : sendLane l mem prog talk (x.withNs n) = (sendLane l mem prog talk x).withNs n := by
  have hclosed : (x.withNs n).isClosed = x.isClosed := rfl
  have hrecord : (x.withNs n).record = x.record := rfl
  simp only [sendLane, hclosed, hrecord]
  repeat' split
  all_goals rfl

theorem earLane_withNs (st : ClipStore) (routes e u : Int) (x : PosState) (n : Suppressor) :
    earLane st routes e u (x.withNs n) = (earLane st routes e u x).withNs n := by
  have hclosed : (x.withNs n).isClosed = x.isClosed := rfl
  simp only [earLane, hclosed]
  split <;> rfl

section
variable (p : Position) (n : Suppressor) (l : Lanes)

theorem Lanes.posn_withNs_self : (l.withNs p n).posn p = (l.posn p).withNs n := by
  simp [Lanes.withNs, Lanes.posn, Lane.withNs]

theorem Lanes.posn_withNs_ne {q : Position} (h : q ≠ p) : (l.withNs p n).posn q = l.posn q := by
  have : p.val ≠ q.val := fun e => h (Fin.ext e.symm)
  simp [Lanes.withNs, Lanes.posn, this]

/-- The signals do not change. -/
theorem Lanes.signal_withNs : (l.withNs p n).signal = l.signal := by
  funext q
  by_cases h : p.val = q.val
  · simp [Lanes.withNs, Lanes.signal, h, Lane.withNs]
  · simp [Lanes.withNs, Lanes.signal, h]

theorem State.sends_withNs (s : State) (inp : FrameInputs) :
    s.sends inp (l.withNs p n) = (s.sends inp l).withNs p n :=
  ofFn_eq_set_of_ne (Lane.withNs n)
    (by rw [Lanes.signal_withNs, Lanes.posn_withNs_self, sendLane_withNs])
    (fun q h => by rw [Lanes.signal_withNs, Lanes.posn_withNs_ne p n l h])

theorem State.residuals_withNs (s : State) (inp : FrameInputs) :
    s.residuals inp (l.withNs p n) = (s.residuals inp l).withNs p n :=
  ofFn_eq_set_of_ne (Lane.withNs n)
    (by rw [Lanes.signal_withNs, Lanes.posn_withNs_self]; rfl)
    (fun q h => by rw [Lanes.signal_withNs, Lanes.posn_withNs_ne p n l h])

/-- The computed lanes with another suppressor state in position p. -/
def Computed.withNs (c : Computed) : Computed :=
  { sends := c.sends.withNs p n, ears := c.ears.set p.val (c.ears[p.val].withNs n) }

theorem State.ears_withNs (s : State) (es : Lanes) :
    s.ears (l.withNs p n) (es.withNs p n) =
      (s.ears l es).set p.val ((s.ears l es)[p.val].withNs n) :=
  ofFn_eq_set_of_ne (EarLane.withNs n)
    (by rw [Lanes.signal_withNs, Lanes.signal_withNs, Lanes.posn_withNs_self, earLane_withNs])
    (fun q h => by rw [Lanes.signal_withNs, Lanes.signal_withNs, Lanes.posn_withNs_ne p n es h])

end

/-! ## The computation behind the uplinks -/

section
variable (p : Position) (n : Suppressor) (c : Computed)

/-- What is read of the ear lanes, suppressors apart, is not changed. -/
theorem Computed.reads_withNs {α : Type} (g : EarLane → α) (hg : ∀ l : EarLane, g (l.withNs n) = g l)
    (q : Position) : g ((c.withNs p n).ears[q.val]) = g (c.ears[q.val]) := by
  by_cases h : p.val = q.val
  · simp [Computed.withNs, h, hg]
  · simp [Computed.withNs, h]

theorem playerRun_withNs : playerRun (c.withNs p n).ears = playerRun c.ears := by
  simp only [playerRun, Computed.reads_withNs p n c EarLane.completed fun _ => rfl]

theorem shockRun_withNs : shockRun (c.withNs p n).ears = shockRun c.ears := by
  have hevent := fun q => Computed.reads_withNs p n c (fun l => shockOnEvent q l.posn) (fun _ => rfl) q
  simp only [shockRun, hevent, Computed.reads_withNs p n c EarLane.cameOn fun _ => rfl,
    Computed.reads_withNs p n c EarLane.wentOff fun _ => rfl]

theorem State.signalWork_withNs (s : State) (inp : FrameInputs) :
    s.signalWork inp (c.withNs p n) = (s.signalWork inp c).withNs p n := by
  have hpos : (Vector.ofFn fun q : Fin 32 => ((c.withNs p n).ears[q.val]).posn) =
      (Vector.ofFn fun q : Fin 32 => (c.ears[q.val]).posn).set p.val
        (((Vector.ofFn fun q : Fin 32 => (c.ears[q.val]).posn)[p.val]).withNs n) :=
    ofFn_eq_set_of_ne (PosState.withNs n) (by simp [Computed.withNs, EarLane.withNs])
      fun q h => by
        have : p.val ≠ q.val := fun e => h (Fin.ext e.symm)
        simp [Computed.withNs, this]
  have hstart (v : Vector PosState 32) :
      { s with pos := v.set p.val (v[p.val].withNs n) }.compareProgrammes inp =
        ({ s with pos := v }.compareProgrammes inp).withNs p n := rfl
  rw [State.signalWork, playerRun_withNs, shockRun_withNs, hpos, hstart, State.takeFrameEvents_withNs]
  rfl

end

/-! ## The mute gate shut (R76) -/

/-- The inputs with another word in one H-link slot. -/
def withMic (inp : FrameInputs) (k : Slot) (w : Word) : FrameInputs :=
  { inp with mics := inp.mics.set k.val w }

/-- A position that holds another H-slot hears what it heard. -/
theorem State.micSample_withMic_ne (s : State) (inp : FrameInputs) {k : Slot} (w : Word) {x : PosState}
    (h : x.record.hSlot ≠ some k) : s.micSample (withMic inp k w) x = s.micSample inp x := by
  unfold State.micSample
  split
  · rfl
  · next j hj =>
    have : k.val ≠ j.val := fun e => h (by rw [hj, Fin.ext e])
    simp [withMic, this]

/-- With the mute gate shut the uplink lane carries 0, whatever the mic sample, which moves the suppressor
alone. -/
theorem uplinkLane_muted (q : Profile) {x : PosState} (h : x.record.wm = 0) (m m' : Int) :
    uplinkLane q x m' = (uplinkLane q x m).withNs (uplinkLane q x m').posn.ns := by
  have hgate (y : Int) : muteGate y 0 = 0 := by simp [muteGate, roundDiv]
  unfold uplinkLane
  split
  · rfl
  · simp [h, hgate, Lane.withNs, PosState.withNs]

/-- The uplinks of a frame on another mic word of a position whose gate stands shut after the weight step. -/
theorem State.uplinks_withMic (s : State) (inp : FrameInputs) {p : Position} {k : Slot} (w : Word)
    (hne : ∀ q, q ≠ p → (s.posn q).record.hSlot ≠ some k) (hwm : (s.posn p).record.wm = 0) :
    ∃ n, s.uplinks (withMic inp k w) = (s.uplinks inp).withNs p n :=
  ⟨_, ofFn_eq_set_of_ne (Lane.withNs _) (uplinkLane_muted (s.frameProfile p) hwm _ _)
    fun q h => by rw [s.micSample_withMic_ne inp w (hne q h)]⟩

/-- The stages behind the uplinks read no mic word of their own. -/
theorem State.lanes_withMic (s : State) (inp : FrameInputs) {p : Position} {k : Slot} (w : Word)
    (hne : ∀ q, q ≠ p → (s.posn q).record.hSlot ≠ some k) (hwm : (s.posn p).record.wm = 0) :
    ∃ n, s.lanes (withMic inp k w) = (s.lanes inp).withNs p n := by
  obtain ⟨n, hup⟩ := s.uplinks_withMic inp w hne hwm
  have hsends : ∀ l, s.sends (withMic inp k w) l = s.sends inp l := fun _ => rfl
  have hresiduals : ∀ l, s.residuals (withMic inp k w) l = s.residuals inp l := fun _ => rfl
  refine ⟨n, ?_⟩
  simp only [State.lanes, hup, hsends, hresiduals, State.sends_withNs, State.residuals_withNs,
    State.ears_withNs, Computed.withNs]

/-- R76: a frame on another mic word of a muted position differs in that position's suppressor alone. -/
theorem State.compute_withMic (s : State) (inp : FrameInputs) {p : Position} {k : Slot} (w : Word)
    (early : Word) (hne : ∀ q, q ≠ p → (s.posn q).record.hSlot ≠ some k) (hwm : (s.posn p).record.wm = 0)
    (htarget : (s.posn p).record.muteTarget = false) :
    ∃ n, s.compute (withMic inp k w) early = (s.compute inp early).withNs p n := by
  have hshut : (s.weighed.posn p).record.wm = 0 := by
    simp [State.weighed, stepWeights, hwm, htarget, gateTarget, stepToward]
  have hslots : ∀ q, q ≠ p → (s.weighed.posn q).record.hSlot ≠ some k := by
    simpa [State.weighed, stepWeights] using hne
  obtain ⟨n, hn⟩ := s.weighed.lanes_withMic inp w hslots hshut
  rw [State.weighed] at hn
  refine ⟨n, ?_⟩
  have hwork (t : State) (c : Computed) : t.signalWork (withMic inp k w) c = t.signalWork inp c := rfl
  have hinputs : (withMic inp k w).order = inp.order := rfl
  have hsends (c : Computed) : (c.withNs p n).sends.signal = c.sends.signal := Lanes.signal_withNs p n c.sends
  have hears (c : Computed) (q : Position) : ((c.withNs p n).ears[q.val]).ear = (c.ears[q.val]).ear :=
    Computed.reads_withNs p n c EarLane.ear (fun _ => rfl) q
  simp only [State.compute, hn, hwork, hinputs, State.signalWork_withNs, State.orderEvents_withNs,
    State.indicatorWord_withNs, hsends, hears, State.audioOf_withNs, State.outbound_withNs, Prod.map_fst,
    Prod.map_snd, id, State.drive_withNs]
  generalize State.drive _ _ _ _ = t
  rfl

/-- A computation takes no message. -/
theorem State.compute_takes_no_message (s : State) (inp : FrameInputs) (early : Word) :
    (s.compute inp early).inputQueue = s.inputQueue := by
  simp only [State.compute, State.drive]
  rw [State.outbound_inputQueue, State.orderEvents_inputQueue, State.signalWork,
    foldl_takeFrameEvent (fun s => s.inputQueue) State.takeFrameEvent_inputQueue]
  simp [State.compareProgrammes]

/-- Settles O47: the frame's computation carries the mic word no further than the suppressor, and the end of
the frame reads no suppressor. -/
theorem mutedMicReachesNothing : Obligations.MutedMicReachesNothing := by
  unfold Obligations.MutedMicReachesNothing
  intro s inp p k w hs _ hne hwm htarget
  obtain ⟨n, hn⟩ := s.compute_withMic inp w s.indicatorWord hne hwm htarget
  have hq : (s.compute inp s.indicatorWord).inputQueue = [] := by
    obtain ⟨_, _, _, _, hempty, _⟩ := s.settled_iff.mp hs
    rw [State.compute_takes_no_message, hempty]
  refine ⟨_, n, execFrame_settled hs inp, ?_⟩
  change _ = Host.Outcome.next (State.withNs p n _)
  rw [← State.closeIf_withNs p n _ hq, ← hn]
  exact execFrame_settled hs (withMic inp k w)

end Sys2Proof.Machine
end

section
/-!
SUPPORT. The commands of the programme monitor and its cycle start, each as one equation.
-/

namespace Sys2Proof.Machine

/-! ## PROG_QUERY (R105) -/

/-- A vector's entries in order, each through the same function into a list. -/
theorem toList_flatMap_eq_finRange {α β : Type} {n : Nat} (v : Vector α n) (f : α → List β) :
    v.toList.flatMap f = (List.finRange n).flatMap fun k : Fin n => f v[k.val] := by
  have hentries : v.toList = (List.finRange n).map fun k : Fin n => v[k.val] :=
    List.ext_getElem (by simp) (by simp)
  rw [hentries, List.flatMap_map]

/-- The fallback word of a PROG_QUERY reply. -/
theorem numWord_codeOfFallback (f : Option ClipId) :
    numWord (codeOfFallback f) = match f with | none => 0x00FF | some c => numWord c.val := by
  cases f <;> rfl

/-- Settles O18: the command's own answer, for an empty body and for any other. -/
theorem progQueryReturnsTheMonitor : Obligations.ProgQueryReturnsTheMonitor := by
  unfold Obligations.ProgQueryReturnsTheMonitor
  intro s body h
  cases body with
  | nil =>
    refine submit_next h [] (f := cmdProgQuery) rfl (s.accepts_up h) ?_
    simp only [cmdProgQuery, toList_flatMap_eq_finRange, numWord_codeOfFallback]
    rfl
  | cons w ws => exact submit_next h (w :: ws) (f := cmdProgQuery) rfl (s.accepts_up h) rfl

/-! ## PROG_SET (R103) -/

/-- The reply code of a PROG_SET that is taken. -/
theorem progSet_code (wt wn : Word) :
    doneCode ((clampWord 0 32767 wt).2 || (clampWord 1 255 wn).2) =
      if 32767 < wt.toNat ∨ wn.toNat < 1 ∨ 255 < wn.toNat then .doneClamped else .done := by
  simp [doneCode, clampWord]

/-- Settles O25: the command stores the clamped words, and the code says whether it clamped one. -/
theorem progSetStoresTheSettings : Obligations.ProgSetStoresTheSettings := by
  unfold Obligations.ProgSetStoresTheSettings
  intro s wk wt wn k h hk
  have hthreshold : (clampWord 0 32767 wt).1 = min 32767 wt.toNat := by simp [clampWord, clampNat]
  refine submit_next h _ (f := cmdProgSet) rfl (s.accepts_up h) ?_
  simp only [cmdProgSet, hk, progSet_code, hthreshold]
  rfl

/-! ## FALLBACK_SET (R104) -/

theorem State.releaseFallback_marked {s : State} {k : Byte} (h : s.busy k = s) (old : Option ClipId) :
    (s.releaseFallback old).busy k = s.releaseFallback old := by
  cases old with
  | none => exact h
  | some c => exact State.releaseUse_marked h none c

@[simp] theorem State.releaseFallback_tlink (s : State) (old : Option ClipId) :
    (s.releaseFallback old).tlink = s.tlink := by
  cases old with
  | none => rfl
  | some c => exact s.releaseUse_tlink none c

/-- FALLBACK_SET that refuses or keeps the setting leaves its reply alone. -/
theorem exec_fallbackSet_keeps {s : State} (h : s.accepts = true) {w : Word} {code : ReplyCode}
    {results : List Word}
    (e : cmdFallbackSet [w] (s.busy 0x29) = { state := s.busy 0x29, reply := some (code, results) }) :
    exec (.fallbackSet [w]) s = .next (s.said 0x29 code results) :=
  submit_next h [w] (f := cmdFallbackSet) rfl (s.accepts_up h) e

/-- FALLBACK_SET that moves from one setting to another: the use of the old clip is released in the marked state
`u` that holds the new setting. -/
theorem exec_fallbackSet_moves {s u : State} (h : s.accepts = true) {w : Word} {results : List Word}
    (hmarked : u.busy 0x29 = u) (hlink : u.tlink = s.tlink)
    (e : cmdFallbackSet [w] (s.busy 0x29) = taken (u.releaseFallback s.fallback) .done results) :
    exec (.fallbackSet [w]) s = .next ((u.releaseFallback s.fallback).said 0x29 .done results) := by
  refine submit_next h [w] (f := cmdFallbackSet) rfl ?_ ?_
  · rw [State.releaseFallback_tlink, hlink, s.accepts_up h]
  · rw [e, State.releaseFallback_marked hmarked]
    rfl

/-- Settles O26: the four answers of the command, by the new setting and its clip's state. -/
theorem fallbackSetMovesTheUse : Obligations.FallbackSetMovesTheUse := by
  unfold Obligations.FallbackSetMovesTheUse
  intro s w new h hw
  refine ⟨?_, ?_, ?_, ?_⟩
  · intro hsame
    refine exec_fallbackSet_keeps h ?_
    simp [cmdFallbackSet, hw, hsame, taken]
  · rintro rfl hmove
    refine exec_fallbackSet_moves (u := { s.busy 0x29 with fallback := none }) h rfl rfl ?_
    simp only [cmdFallbackSet, hw, State.busy_fallback, hmove, if_false]
  · rintro c rfl hmove hready
    refine exec_fallbackSet_moves
      (u := { s.busy 0x29 with fallback := some c, store := s.store.takeUse c }) h rfl rfl ?_
    simp [cmdFallbackSet, hw, hmove, hready]
  · rintro c rfl hmove hready
    refine exec_fallbackSet_keeps h ?_
    simp [cmdFallbackSet, hw, hmove, hready, refused]

/-! ## The cycle start (R102) -/

theorem Programme.fallsSilent_iff (g : Programme) :
    g.fallsSilent = true ↔
      g.sounding ∧ ¬ g.loud ∧ g.silenceCycles ≤ min 255 (g.silentCount + 1) := by
  simp [Programme.fallsSilent, and_assoc]

/-- What the ended cycle makes of a programme: a loud one sounds, a quiet one falls silent at S. -/
theorem Programme.evaluated_eq (g : Programme) :
    g.evaluated =
      if g.loud then { g with sounding := true, silentCount := 0, loud := false }
      else if g.sounding ∧ g.silenceCycles ≤ min 255 (g.silentCount + 1) then
        { g with sounding := false, silentCount := min 255 (g.silentCount + 1), loud := false }
      else { g with silentCount := min 255 (g.silentCount + 1), loud := false } := by
  cases hl : g.loud with
  | true => simp [Programme.evaluated, hl]
  | false =>
    have hfalls : g.fallsSilent = true ↔ g.sounding ∧ g.silenceCycles ≤ min 255 (g.silentCount + 1) := by
      simp only [g.fallsSilent_iff, hl, Bool.false_eq_true, not_false_eq_true, true_and]
    simp only [Programme.evaluated, ← hfalls, hl, Bool.false_eq_true, if_false]
    cases hf : g.fallsSilent <;> simp

/-- The event of a programme's evaluation: it fell silent, it came back, or neither. -/
theorem Programme.verdict_eq (k : ProgId) (g : Programme) :
    Programme.verdict k g =
      if g.sounding ∧ ¬ g.loud ∧ g.silenceCycles ≤ min 255 (g.silentCount + 1) then [.progSilent k]
      else if ¬ g.sounding ∧ g.loud then [.progBack k]
      else [] := by
  simp only [Programme.verdict, Programme.fallsSilent_iff, Programme.comesBack, Bool.and_eq_true,
    Bool.not_eq_true', Bool.not_eq_true]

theorem Programme.verdict_length (k : ProgId) (g : Programme) : (Programme.verdict k g).length ≤ 1 := by
  unfold Programme.verdict
  split
  · simp
  · split <;> simp

/-- Lists of one entry at most, one after another, are no longer than the list they come from. -/
theorem length_flatMap_le_length {α β : Type} {f : α → List β} (l : List α) (h : ∀ a, (f a).length ≤ 1) :
    (l.flatMap f).length ≤ l.length := by
  induction l with
  | nil => exact Nat.le_refl 0
  | cons a l ih =>
    have ha := h a
    rw [List.flatMap_cons, List.length_append, List.length_cons]
    omega

/-- The events of one cycle start, in programme order. -/
def State.verdicts (s : State) : List Event :=
  (List.finRange 4).flatMap fun k : Fin 4 => Programme.verdict k s.progs[k.val]

/-- A cycle start raises one event for a programme at most. -/
theorem State.verdicts_length (s : State) : s.verdicts.length ≤ 4 := by
  rw [← List.length_finRange (n := 4)]
  exact length_flatMap_le_length _ fun k => Programme.verdict_length k _

theorem State.monitor_events {s : State} (h : s.events.length + 4 ≤ 64) :
    s.monitor.events = s.events ++ s.verdicts :=
  State.raiseAll_events _ _ (Nat.le_trans (Nat.add_le_add_left s.verdicts_length _) h)

theorem State.monitor_progs_getElem (s : State) (k : ProgId) :
    s.monitor.progs[k.val] = (s.progs[k.val]).evaluated := by
  simp [State.monitor]

/-- The evaluation touches neither clips, routes, positions, fallback, replies nor the frame timer. -/
theorem State.monitor_frame (s : State) :
    s.monitor.store = s.store ∧ s.monitor.routes = s.routes ∧ s.monitor.pos = s.pos ∧
      s.monitor.fallback = s.fallback ∧ s.monitor.replies = s.replies ∧ s.monitor.timer = s.timer := by
  simp [State.monitor]

/-- CYCLE_START, where it is due. -/
theorem exec_cycleStart_due {s : State} (hr : s.resetLow = false) (hd : s.monitorDue = true) :
    exec .cycleStart s = .next s.monitor := by
  simp [exec, execCycleStart, State.whenRunning, hr, hd]

/-- PROG_SILENT is the cycle start at which its programme falls silent. -/
theorem exec_progSilent_due {s : State} (hr : s.resetLow = false) (hd : s.monitorDue = true) {k : ProgId}
    (hk : (s.progs[k.val]).fallsSilent = true) : exec (.progSilent k) s = .next s.monitor := by
  simp [exec, execProgSilent, State.whenRunning, hr, hd, hk]

/-- Settles O27: every clause is read off the evaluation of one programme and the events it raises. -/
theorem cycleStartEvaluatesTheProgrammes : Obligations.CycleStartEvaluatesTheProgrammes := by
  unfold Obligations.CycleStartEvaluatesTheProgrammes
  intro s hr hd
  obtain ⟨hstore, hroutes, hpos, hfallback, hreplies, htimer⟩ := s.monitor_frame
  refine ⟨_, exec_cycleStart_due hr hd, ?_, hstore, hroutes, hpos, hfallback, hreplies, htimer, ?_, ?_⟩
  · intro k
    rw [State.monitor_progs_getElem, Programme.evaluated_eq]
  · intro hroom
    simp only [State.monitor_events hroom, State.verdicts, Programme.verdict_eq]
  · intro k hsounding hquiet hcount
    exact exec_progSilent_due hr hd ((Programme.fallsSilent_iff _).mpr ⟨hsounding, by simp [hquiet], hcount⟩)

end Sys2Proof.Machine
end

section
/-!
SUPPORT. The uplinks and the sends of a settled frame, in the terms of the state before the frame and of the
state that it ends in.
-/

namespace Sys2Proof.Machine

/-! ## Samples that pass unchanged (R1) -/

/-- An exact quotient of magnitudes is not rounded. -/
theorem halfUp_mul_self (m : Nat) {d : Nat} (hd : 0 < d) : (2 * (m * d) + d) / (2 * d) = m := by
  have hshift : 2 * (m * d) + d = d + 2 * d * m := by
    rw [Nat.mul_assoc, Nat.mul_comm d m, Nat.add_comm]
  have hhalf : d / (2 * d) = 0 := Nat.div_eq_of_lt (by omega)
  rw [hshift, Nat.add_mul_div_left _ _ (by omega), hhalf, Nat.zero_add]

/-- An exact quotient is not rounded. -/
theorem roundDiv_mul_self (n : Int) {d : Nat} (hd : 0 < d) : roundDiv (n * d) d = n := by
  cases n with
  | ofNat m =>
    have hproduct : Int.ofNat m * d = ((m * d : Nat) : Int) := (Int.natCast_mul m d).symm
    rw [roundDiv, hproduct, if_pos (Int.natCast_nonneg _), Int.toNat_natCast, halfUp_mul_self m hd]
    rfl
  | negSucc m =>
    have hproduct : Int.negSucc m * d = -(((m + 1) * d : Nat) : Int) := by
      rw [Int.negSucc_eq, Int.neg_mul, Int.natCast_mul, Int.natCast_add, Int.natCast_one]
    have hpos : 0 < (m + 1) * d := Nat.mul_pos m.succ_pos hd
    rw [roundDiv, hproduct, if_neg (by omega), Int.neg_neg, Int.toNat_natCast, halfUp_mul_self _ hd]
    rfl

theorem satSample_sampleOf (w : Word) : satSample (sampleOf w) = sampleOf w := by
  have hlo := BitVec.le_toInt w
  have hhi := BitVec.toInt_lt (x := w)
  simp only [satSample, saturate, sampleOf]
  omega

theorem wordOfSample_sampleOf (w : Word) : wordOfSample (sampleOf w) = w := BitVec.ofInt_toInt

/-! ## The suppressor (R66 to R68) -/

/-- An envelope lies in band `b` of a floor (R67). -/
def inBand (env floor b : Nat) : Prop :=
  (b ≠ 0 → 2 ^ b * floor ≤ env) ∧ (b ≠ 7 → env < 2 ^ (b + 1) * floor)

theorem bandOf_lt (env floor : Nat) : bandOf env floor < 8 := by
  unfold bandOf
  repeat' split
  all_goals decide

theorem bandOf_inBand (env floor : Nat) : inBand env floor (bandOf env floor) := by
  unfold bandOf
  repeat' split
  all_goals
    refine ⟨fun _ => ?_, fun _ => ?_⟩
    · omega
    · omega

/-- The gain target of a band is the curve's entry. -/
theorem gainTarget_eq (q : Profile) (b : Fin 8) : gainTarget q b.val = q.curve[b.val] := by
  simp [gainTarget]

/-- The gain of the next frame moves toward the curve's entry of the band of the envelope. -/
theorem suppressorStep_gain (q : Profile) (n : Suppressor) (x : Int) :
    ∃ b : Fin 8, inBand (suppressorStep q n x).env n.floor b.val ∧
      (suppressorStep q n x).gain = slewGain q n.gain q.curve[b.val] :=
  ⟨⟨_, bandOf_lt _ _⟩, bandOf_inBand _ _, by rw [← gainTarget_eq]; rfl⟩

/-! ## The signals of the lanes -/

theorem PosState.isClosed_iff (x : PosState) : x.isClosed = true ↔ x.record.stored = .closed := decide_eq_true_iff

/-- The suppressor runs where the position is not CLOSED. -/
theorem uplinkLane_ns (q : Profile) (x : PosState) (m : Int) :
    (uplinkLane q x m).posn.ns = if x.record.stored = .closed then x.ns else suppressorStep q x.ns m := by
  simp only [uplinkLane, x.isClosed_iff]
  split <;> rfl

/-- The uplink sample of a lane: the suppressed sample through the mute gate, 0 when CLOSED (R68, R76). -/
theorem uplinkLane_signal (q : Profile) (x : PosState) (m : Int) :
    (uplinkLane q x m).signal =
      if x.record.stored = .closed then 0
      else muteGate (suppressedSample q (suppressorStep q x.ns m) m) x.record.wm := by
  simp only [uplinkLane, x.isClosed_iff]
  split <;> rfl

theorem State.uplinks_signal (s : State) (inp : FrameInputs) (p : Position) :
    (s.uplinks inp).signal p = (uplinkLane (s.frameProfile p) (s.posn p) (s.micSample inp (s.posn p))).signal := by
  simp [State.uplinks, Lanes.signal]

theorem State.sends_signal (s : State) (inp : FrameInputs) (us : Lanes) (p : Position) :
    (s.sends inp us).signal p =
      (sendLane s.latch s.store.mem (s.progSample inp)
        (talkMix (us.signal p) (routeSum us.signal noResidual s.latch.routes .send p)) (us.posn p)).signal := by
  simp [State.sends, Lanes.signal]

/-- With the hold weight at 0 the hold input does not enter the send. -/
theorem sendPre_weight_zero (talk hold : Int) (gain : Nat) : sendPre talk hold 0 gain = sendPre talk 0 0 gain := by
  simp [sendPre]

/-- The send of a position that is not CLOSED, with or without a hold input. -/
theorem sendLane_signal (l : Latch) (mem : List ClipCell) (prog : ProgId → Int) (talk : Int) {x : PosState}
    (hopen : x.record.stored ≠ .closed) :
    (sendLane l mem prog talk x).signal =
      sendSample (sendPre talk (holdInput l mem prog x.inForce.params.holdSource (holdReadPtr x)) x.record.h
        x.inForce.params.holdGain) x.record.wo := by
  unfold sendLane
  rw [if_neg (mt x.isClosed_iff.mp hopen)]
  split
  · next hh =>
    rw [hh]
    exact congrArg (sendSample · x.record.wo) (sendPre_weight_zero ..).symm
  · rfl

/-! ## The state after the weight step -/

theorem State.weighed_posn (s : State) (p : Position) : s.weighed.posn p = stepWeights (s.posn p) := by
  simp [State.weighed]

theorem State.weighed_frameProfile (s : State) (p : Position) : s.weighed.frameProfile p = s.frameProfile p := by
  simp only [State.frameProfile, State.weighed_posn, stepWeights]
  simp [State.weighed]

/-- The weight step changes no mic sample. -/
theorem State.weighed_micSample (s : State) (inp : FrameInputs) (p : Position) :
    s.weighed.micSample inp (s.weighed.posn p) = s.micSample inp (s.posn p) := by
  simp only [State.micSample, State.hears, State.weighed_posn, stepWeights]
  simp [State.weighed]

/-- The uplink sample u_p of a frame. -/
def State.uplinkSample (s : State) (inp : FrameInputs) (p : Position) : Int :=
  (s.weighed.uplinks inp).signal p

theorem State.uplinkSample_eq (s : State) (inp : FrameInputs) (p : Position) :
    s.uplinkSample inp p =
      if (s.posn p).record.stored = .closed then 0
      else muteGate (suppressedSample (s.frameProfile p)
        (suppressorStep (s.frameProfile p) (s.posn p).ns (s.micSample inp (s.posn p)))
        (s.micSample inp (s.posn p))) (stepWeights (s.posn p)).record.wm := by
  rw [State.uplinkSample, State.uplinks_signal, State.weighed_frameProfile, State.weighed_micSample,
    State.weighed_posn, uplinkLane_signal]
  rfl

/-- The talk mix of a frame (R91). -/
def State.talkSample (s : State) (inp : FrameInputs) (p : Position) : Int :=
  talkMix (s.uplinkSample inp p) (routeSum (s.uplinkSample inp) noResidual s.latch.routes .send p)

/-- The hold input of a frame (R96). -/
def State.holdSample (s : State) (inp : FrameInputs) (p : Position) : Int :=
  holdInput s.latch s.store.mem (s.progSample inp) (s.posn p).inForce.params.holdSource (holdReadPtr (s.posn p))

/-- The send of a frame, from its talk mix and its hold input (R98). -/
theorem State.weighed_sends_signal (s : State) (inp : FrameInputs) {p : Position}
    (hopen : (s.posn p).record.stored ≠ .closed) :
    (s.weighed.sends inp (s.weighed.uplinks inp)).signal p =
      sendSample (sendPre (s.talkSample inp p) (s.holdSample inp p) (stepWeights (s.posn p)).record.h
        (s.posn p).inForce.params.holdGain) (stepWeights (s.posn p)).record.wo := by
  have hrecord : ((s.weighed.uplinks inp).posn p).record = (stepWeights (s.posn p)).record := by
    rw [State.uplinks_posn, uplinkLane_record, State.weighed_posn]
  have hforce : ((s.weighed.uplinks inp).posn p).inForce = (s.posn p).inForce := by
    rw [State.uplinks_posn, uplinkLane_inForce, State.weighed_posn]; rfl
  have hptr : holdReadPtr ((s.weighed.uplinks inp).posn p) = holdReadPtr (s.posn p) := by
    rw [holdReadPtr, hforce, hrecord]; rfl
  have hlatch : s.weighed.latch = s.latch := by simp [State.weighed]
  have hstore : s.weighed.store = s.store := by simp [State.weighed]
  have hprog : s.weighed.progSample inp = s.progSample inp := by
    funext k; simp [State.progSample, State.weighed]
  rw [State.sends_signal, sendLane_signal _ _ _ _ (by rw [hrecord]; exact hopen), hrecord,
    hforce, hptr, hlatch, hstore, hprog]
  rfl

/-! ## The slots of a frame (R148) -/

/-- Who holds a T-slot is read of the T-slots alone. -/
theorem State.tOwner_congr {s t : State} (h : ∀ p, (t.posn p).record.tSlot = (s.posn p).record.tSlot) (k : Slot) :
    t.tOwner k = s.tOwner k := by
  simp only [State.tOwner, h]

theorem State.tSlot_of_tOwner {s : State} {k : Slot} {p : Position} (h : s.tOwner k = some p) :
    (s.posn p).record.tSlot = some k := by
  simpa [State.tOwner] using List.find?_some h

/-- The positions behind the signal arithmetic are those behind the whole computation. -/
theorem State.signalWork_posn (s : State) (inp : FrameInputs) (w : Word) (p : Position) :
    (s.weighed.signalWork inp (s.weighed.lanes inp)).posn p = (s.compute inp w).posn p := by
  refine State.posn_congr ?_ p
  rw [State.compute_pos, State.signalWork, foldl_takeFrameEvent (fun s => s.pos) State.takeFrameEvent_pos]
  rfl

/-- The audio that a frame computes. -/
theorem State.compute_audio (s : State) (inp : FrameInputs) (w : Word) :
    (s.compute inp w).outputs.computed =
      ((s.weighed.signalWork inp (s.weighed.lanes inp)).orderEvents inp.order).audioOf
        (s.weighed.sends inp (s.weighed.uplinks inp)).signal fun q => ((s.weighed.lanes inp).ears[q.val]).ear := by
  simp only [State.compute, State.drive, State.weighed, State.lanes]

theorem State.orderEvents_tOwner (s : State) (o : FrameOrder) (k : Slot) : (s.orderEvents o).tOwner k = s.tOwner k :=
  State.tOwner_congr (fun _ => rfl) k

/-- The trunk slot of a frame: the send of the position that holds it, if that position fills its slots. -/
theorem State.compute_trunk (s : State) (inp : FrameInputs) (w : Word) {k : Slot} {p : Position}
    (howner : s.tOwner k = some p) :
    (s.compute inp w).outputs.computed.trunk[k.val] =
      if fills (s.posn p) then wordOfSample ((s.weighed.sends inp (s.weighed.uplinks inp)).signal p) else 0 := by
  have hrecord (q : Position) :
      ((s.weighed.signalWork inp (s.weighed.lanes inp)).posn q).record = ((s.compute inp w).posn q).record := by
    rw [State.signalWork_posn]
  have howner' : (s.weighed.signalWork inp (s.weighed.lanes inp)).tOwner k = some p := by
    rw [← howner]
    exact State.tOwner_congr (fun q => by rw [hrecord, State.compute_record]; rfl) k
  have hfills : fills ((s.weighed.signalWork inp (s.weighed.lanes inp)).posn p) = fills (s.posn p) := by
    simp only [fills, PosState.isClosed, hrecord, State.compute_record]
    rfl
  rw [State.compute_audio]
  simp only [State.audioOf, Vector.getElem_ofFn, Fin.eta, State.orderEvents_tOwner, State.orderEvents_posn, howner',
    hfills]

/-- The suppressor after a computed frame. -/
theorem State.compute_ns (s : State) (inp : FrameInputs) (w : Word) (p : Position) :
    ((s.compute inp w).posn p).ns =
      if (s.posn p).record.stored = .closed then (s.posn p).ns
      else suppressorStep (s.frameProfile p) (s.posn p).ns (s.micSample inp (s.posn p)) := by
  rw [State.compute_posn, State.lanes_posn, earLane_ns, State.residuals_posn, residualLane_posn, State.sends_posn,
    sendLane_posn, State.uplinks_posn, State.weighed_frameProfile, State.weighed_micSample, State.weighed_posn]
  exact uplinkLane_ns ..

/-- The loud flags are read of the programmes and of the trunk's state alone. -/
theorem State.compareProgrammes_progs_congr {s t : State} (inp : FrameInputs) (hprogs : t.progs = s.progs)
    (hlink : t.tlink = s.tlink) : (t.compareProgrammes inp).progs = (s.compareProgrammes inp).progs := by
  have hsample : t.progSample inp = s.progSample inp := by
    funext k; simp only [State.progSample, hlink]
  simp only [State.compareProgrammes]
  rw [hprogs, hsample]

/-- The programmes after a computed frame: their loud flags compared (R101). -/
theorem State.compute_progs (s : State) (inp : FrameInputs) (w : Word) :
    (s.compute inp w).progs = (s.compareProgrammes inp).progs := by
  simp only [State.compute, State.drive]
  rw [State.outbound_progs, State.orderEvents_progs, State.signalWork,
    foldl_takeFrameEvent (fun s => s.progs) State.takeFrameEvent_progs]
  refine State.compareProgrammes_progs_congr inp ?_ ?_
  · simp only [State.mapPosns_progs]
  · simp only [State.mapPosns_tlink]

/-! ## The state that a settled frame ends in -/

/-- The state after FRAME in a settled frame. -/
def State.framed (s : State) (inp : FrameInputs) : State :=
  (s.compute inp s.indicatorWord).closeIf inp.order

theorem latchPosn_ns (x : PosState) : (latchPosn x).ns = x.ns := rfl

section
variable {s : State} (h : s.settled = true) (inp : FrameInputs)
include h

theorem exec_frame_settled : exec (.frame inp) s = .next (s.framed inp) := execFrame_settled h inp

theorem State.compute_inputQueue_settled : (s.compute inp s.indicatorWord).inputQueue = [] := by
  obtain ⟨_, _, _, _, hempty, _⟩ := s.settled_iff.mp h
  rw [State.compute_takes_no_message, hempty]

theorem State.framed_ns (p : Position) :
    ((s.framed inp).posn p).ns =
      if (s.posn p).record.stored = .closed then (s.posn p).ns
      else suppressorStep (s.frameProfile p) (s.posn p).ns (s.micSample inp (s.posn p)) := by
  rw [← s.compute_ns inp s.indicatorWord, State.framed, State.closeIf_eq (State.compute_inputQueue_settled h inp)]
  split
  · rw [State.endFrame_posn, latchPosn_ns]
  · rfl

theorem State.framed_weights (p : Position) :
    ((s.framed inp).posn p).record.wo = (stepWeights (s.posn p)).record.wo ∧
      ((s.framed inp).posn p).record.h = (stepWeights (s.posn p)).record.h ∧
      ((s.framed inp).posn p).record.wm = (stepWeights (s.posn p)).record.wm := by
  rw [State.framed, State.closeIf_record (State.compute_inputQueue_settled h inp), State.compute_record]
  exact ⟨rfl, rfl, rfl⟩

theorem State.framed_progs_getElem (k : ProgId) :
    (s.framed inp).progs[k.val] =
      { s.progs[k.val] with
        loud := (s.progs[k.val]).loud || decide ((s.progs[k.val]).threshold < (s.progSample inp k).natAbs) } := by
  simp [State.framed, State.closeIf_progs (State.compute_inputQueue_settled h inp), State.compute_progs,
    State.compareProgrammes]

theorem State.framed_trunk {k : Slot} {p : Position} (howner : s.tOwner k = some p) :
    (s.framed inp).outputs.computed.trunk[k.val] =
      if fills (s.posn p) then wordOfSample ((s.weighed.sends inp (s.weighed.uplinks inp)).signal p) else 0 := by
  simp only [State.framed, State.closeIf_outputs (State.compute_inputQueue_settled h inp),
    State.compute_trunk s inp _ howner]

/-- The trunk slot of a position that fills its slots (R98). -/
theorem State.framed_trunk_send {k : Slot} {p : Position} (howner : s.tOwner k = some p)
    (hopen : (s.posn p).record.stored ≠ .closed) (hslot : (s.posn p).record.hSlot ≠ none) :
    (s.framed inp).outputs.computed.trunk[k.val] =
      wordOfSample (sendSample (sendPre (s.talkSample inp p) (s.holdSample inp p)
        (stepWeights (s.posn p)).record.h (s.posn p).inForce.params.holdGain)
        (stepWeights (s.posn p)).record.wo) := by
  have hfills : fills (s.posn p) = true := by
    simp [fills, PosState.isClosed, hopen, Option.isSome_iff_ne_none, hslot, State.tSlot_of_tOwner howner]
  rw [State.framed_trunk h inp howner, if_pos hfills, State.weighed_sends_signal s inp hopen]

/-- u_p in the terms of the state that the frame ends in (R68, R69, R76). -/
theorem State.uplinkIn_framed (p : Position) : s.uplinkIn (s.framed inp) inp p = s.uplinkSample inp p := by
  obtain ⟨_, _, hwm⟩ := State.framed_weights h inp p
  rw [State.uplinkSample_eq, State.uplinkIn, hwm, State.framed_ns h inp p]
  split <;> rfl

/-- The routes into a send carry uplinks alone where the frame uses no forbidden route (R82, R91). -/
theorem State.routedIn_send_framed (hlegal : ∀ r ∈ s.latch.routes, forbiddenPair r.pair = false) (p : Position) :
    s.routedIn (s.framed inp) inp .send p =
      routeSum (s.uplinkSample inp) noResidual s.latch.routes .send p := by
  rw [routeSum, ← List.foldl_map (f := fun r : Route => sourceSample (s.uplinkSample inp) noResidual r * r.gain)
    (g := (· + ·)), ← List.sum_eq_foldl, State.routedIn]
  refine congrArg List.sum (List.map_congr_left fun r hr => ?_)
  obtain ⟨hmem, hdst⟩ := List.mem_filter.mp hr
  obtain ⟨hkind, _⟩ := of_decide_eq_true hdst
  have hlawful := hlegal r hmem
  cases hsrc : r.pair.srcKind with
  | uplink => simp only [sourceSample, hsrc, State.uplinkIn_framed h inp]
  | residual => simp [forbiddenPair, hsrc, hkind] at hlawful

/-- The talk mix in the terms of the state that the frame ends in (R91). -/
theorem State.talkSample_framed (hlegal : ∀ r ∈ s.latch.routes, forbiddenPair r.pair = false) (p : Position) :
    s.talkSample inp p =
      satSample (roundDiv (s.uplinkIn (s.framed inp) inp p * 4096 + s.routedIn (s.framed inp) inp .send p) 4096) := by
  rw [State.uplinkIn_framed h inp, State.routedIn_send_framed h inp hlegal]
  rfl

end

/-! ## The plain path (R69, R76) -/

/-- With the profile in bypass and the mute gate full, u_p is the mic sample. -/
theorem State.uplinkSample_plain {s : State} (inp : FrameInputs) {p : Position} {k : Slot}
    (hactive : (s.posn p).record.stored = .active) (hslot : (s.posn p).record.hSlot = some k)
    (hwm : (s.posn p).record.wm = 32) (htarget : (s.posn p).record.muteTarget = true)
    (hbypass : (s.frameProfile p).bypass = true) (hhears : s.hears = true) :
    s.uplinkSample inp p = sampleOf inp.mics[k.val] := by
  have hmic : s.micSample inp (s.posn p) = sampleOf inp.mics[k.val] := by simp [State.micSample, hslot, hhears]
  have hgate : muteGate (sampleOf inp.mics[k.val]) 32 = sampleOf inp.mics[k.val] :=
    roundDiv_mul_self _ (by decide)
  rw [State.uplinkSample_eq, hmic]
  simp [stepWeights, hactive, suppressedSample, hbypass, hwm, htarget, gateTarget, stepToward, hgate]

/-- With no route into the send the talk mix of a sample is the sample. -/
theorem talkMix_plain (w : Word) : talkMix (sampleOf w) 0 = sampleOf w := by
  rw [talkMix, Int.add_zero]
  exact (congrArg satSample (roundDiv_mul_self _ (by decide))).trans (satSample_sampleOf w)

/-- In TALK, with the output gate full, the send of a sample is the sample. -/
theorem sendSample_plain (w : Word) (hold : Int) (gain : Nat) :
    sendSample (sendPre (sampleOf w) hold 0 gain) 32 = sampleOf w := by
  have hpre : sendPre (sampleOf w) hold 0 gain = sampleOf w := by
    rw [sendPre_weight_zero, sendPre]
    have hscale : sampleOf w * (32 - ((0 : Nat) : Int)) * 4096 + 0 * (gain : Int) * ((0 : Nat) : Int) =
        sampleOf w * (131072 : Nat) := by omega
    rw [hscale, roundDiv_mul_self _ (by decide), satSample_sampleOf]
  rw [hpre]
  exact roundDiv_mul_self _ (by decide)

/-- A send with no route into it. -/
theorem routeSum_none {us es : Position → Int} {t : List Route} {k : DestKind} {b : Position}
    (h : ∀ r ∈ t, ¬ (r.pair.dstKind = k ∧ r.pair.dst = b)) : routeSum us es t k b = 0 := by
  rw [routeSum, List.filter_eq_nil_iff.mpr (by simpa using h)]
  rfl

/-- Settles O46: each clause by the law of its stage, read in the state that the frame ends in. -/
theorem uplinksAndSendsAreFormed : Obligations.UplinksAndSendsAreFormed := by
  unfold Obligations.UplinksAndSendsAreFormed
  intro s inp h
  refine ⟨_, exec_frame_settled h inp, State.framed_progs_getElem h inp, fun p => ⟨?_, ?_, ?_, ?_, ?_⟩⟩
  · intro hclosed
    rw [State.framed_ns h inp, if_pos hclosed]
  · intro hopen
    rw [State.framed_ns h inp, if_neg hopen]
    obtain ⟨b, ⟨hlow, hhigh⟩, hgain⟩ :=
      suppressorStep_gain (s.frameProfile p) (s.posn p).ns (s.micSample inp (s.posn p))
    exact ⟨rfl, rfl, rfl, b, hlow, hhigh, hgain⟩
  · intro ts howner hsilent
    have hfills : fills (s.posn p) = false := by
      rcases hsilent with hclosed | hnone
      · simp [fills, PosState.isClosed, hclosed]
      · simp [fills, hnone]
    rw [State.framed_trunk h inp howner, hfills]
    rfl
  · intro ts howner hopen hslot hlegal
    obtain ⟨hwo, hh, _⟩ := State.framed_weights h inp p
    rw [State.framed_trunk_send h inp howner hopen hslot, State.talkSample_framed h inp hlegal, hwo, hh]
    rfl
  · intro ks ts hactive hslot howner hh hhold hwo hout hwm hmute hbypass hroutes hdriving harmed
    have hhears : s.hears = true := by simp [State.hears, hdriving, harmed]
    have htalk : s.talkSample inp p = sampleOf inp.mics[ks.val] := by
      rw [State.talkSample, routeSum_none hroutes,
        State.uplinkSample_plain inp hactive hslot hwm hmute hbypass hhears, talkMix_plain]
    have hweights : (stepWeights (s.posn p)).record.h = 0 ∧ (stepWeights (s.posn p)).record.wo = 32 := by
      simp [stepWeights, stepToward, gateTarget, hh, hhold, hwo, hout]
    rw [State.framed_trunk_send h inp howner (by simp [hactive]) (by simp [hslot]), hweights.1, hweights.2, htalk,
      sendSample_plain, wordOfSample_sampleOf]

end Sys2Proof.Machine
end

section
/-!
SUPPORT. The commands of the earpiece protection, each as one equation.
-/

namespace Sys2Proof.Machine

/-! ## The position check (R13) -/

theorem withPosition_of_some {w : Word} {p : Position} (hp : posOf w = some p) (s : State)
    (f : Position → Answer) : withPosition w s f = f p := by
  simp only [withPosition, hp]

theorem withPosition_of_lt {w : Word} (hw : w.toNat < 32) (s : State) (f : Position → Answer) :
    withPosition w s f = f ⟨w.toNat, hw⟩ :=
  withPosition_of_some (dif_pos hw) s f

theorem withPosition_of_not_lt {w : Word} (hw : ¬ w.toNat < 32) (s : State) (f : Position → Answer) :
    withPosition w s f = refused s .refusedRange := by
  simp only [withPosition, posOf, dif_neg hw]

/-! ## A change of the stage -/

@[simp] theorem State.modShock_shock_self (s : State) (p : Position) (f : Shock → Shock) :
    ((s.modShock p f).posn p).shock = f (s.posn p).shock := by
  simp [State.modShock]

/-! ## SHOCK_QUERY (R136) -/

/-- Settles O17: the length check, then the position check, then the record. -/
theorem shockQueryReturnsTheRecord : Obligations.ShockQueryReturnsTheRecord := by
  unfold Obligations.ShockQueryReturnsTheRecord
  intro s body h
  have answers {code results} (e : cmdShockQuery body (s.busy 0x42) =
      { state := s.busy 0x42, reply := some (code, results) }) :
      exec (.shockQuery body) s = .next (s.said 0x42 code results) :=
    submit_next h body (f := cmdShockQuery) rfl (s.accepts_up h) e
  match body with
  | [] => exact answers rfl
  | [w] =>
    by_cases hw : w.toNat < 32
    · simp only [dif_pos hw]
      exact answers (withPosition_of_lt hw _ _)
    · simp only [dif_neg hw]
      exact answers (withPosition_of_not_lt hw _ _)
  | _ :: _ :: _ => exact answers rfl

/-! ## The words of SHOCK_SET (R134) -/

/-- The mode word is written back as it was read (section 12.3). -/
theorem numWord_codeOfShockMode {w : Word} {m : ShockMode} (h : shockModeOf w = some m) :
    numWord (codeOfShockMode m) = w := by
  unfold shockModeOf at h
  split at h
  · next hauto => cases h; exact hauto.symm
  · split at h
    · next hlatched => cases h; exact hlatched.symm
    · cases h

/-- The reply code of a SHOCK_SET that is taken. -/
theorem shockSet_code (wt wk wg wh wr wc : Word) :
    doneCode ((clampWord 1024 32767 wt).2 || (clampWord 1 16 wk).2 || (clampWord 0 4096 wg).2 ||
        (clampWord 1 255 wh).2 || (clampWord 1 4096 wr).2 || (clampWord 1024 32767 wc).2) =
      if wt.toNat < 1024 ∨ 32767 < wt.toNat ∨ wk.toNat < 1 ∨ 16 < wk.toNat ∨ 4096 < wg.toNat ∨
          wh.toNat < 1 ∨ 255 < wh.toNat ∨ wr.toNat < 1 ∨ 4096 < wr.toNat ∨ wc.toNat < 1024 ∨
          32767 < wc.toNat then .doneClamped else .done := by
  simp [doneCode, clampWord, or_assoc]

/-! ## SHOCK_CLEAR (R135) -/

theorem cmdShockClear_latched {wp : Word} {p : Position} (hp : posOf wp = some p) {s : State}
    (hlatched : (s.posn p).shock.state = .latched) :
    cmdShockClear [wp] s =
      taken (s.modShock p fun k => { k with state := .releasing }) .done [numWord 3] := by
  simp only [cmdShockClear, withPosition_of_some hp, if_pos hlatched, State.modShock_shock_self, codeOfShock]

theorem cmdShockClear_not_latched {wp : Word} {p : Position} (hp : posOf wp = some p) {s : State}
    (hlatched : (s.posn p).shock.state ≠ .latched) :
    cmdShockClear [wp] s = taken s .done [numWord (codeOfShock (s.posn p).shock.state)] := by
  simp only [cmdShockClear, withPosition_of_some hp, if_neg hlatched]

/-- Settles O34: the stored stage of SHOCK_SET, and SHOCK_CLEAR in and out of LATCHED. -/
theorem shockCommandsActOnTheStage : Obligations.ShockCommandsActOnTheStage := by
  unfold Obligations.ShockCommandsActOnTheStage
  intro s wp p h hp
  refine ⟨fun wt wk wg wh wr wm wc m hm => ?_, fun hlatched => ?_, fun hlatched => ?_⟩
  · have hgain : (clampWord 0 4096 wg).1 = min 4096 wg.toNat := Nat.zero_max _
    refine submit_next h _ (f := cmdShockSet) rfl (s.accepts_up h) ?_
    simp only [cmdShockSet, withPosition_of_some hp, hm, shockSet_code, hgain, State.modShock_shock_self]
    rw [← numWord_codeOfShockMode hm]
    rfl
  · exact submit_next h [wp] (f := cmdShockClear) rfl (s.accepts_up h)
      (cmdShockClear_latched (s := s.busy 0x41) hp hlatched)
  · exact submit_next h [wp] (f := cmdShockClear) rfl (s.accepts_up h)
      (cmdShockClear_not_latched (s := s.busy 0x41) hp hlatched)

end Sys2Proof.Machine
end
